-- ==== Sys2Proof/Word.lean ====
section
/-! DEFINITION. The word types of the block: bytes, 24-bit field patterns, timestamps and raw frames. -/

namespace Sys2Proof

/-- A byte: 8 bits, read as an unsigned integer 0 to 255 (R15). -/
abbrev Byte := BitVec 8

/-- The 24-bit pattern of a 3-byte field, bit 23 being bit 7 of the first byte (R93). -/
abbrev Field24 := BitVec 24

/-- A timestamp: an unsigned count of `1 / TICK_HZ` seconds, TS_W = 64 bits wide (R18, R226). -/
abbrev Timestamp := BitVec 64

/-- A RawFrame: its bytes in arrival order, byte 0 first; its length is the list's (R20, R35, R63). -/
abbrev RawFrame := List Byte

end Sys2Proof
end

