-- ==== Sys2Proof/Config.lean ====
section
/-! DEFINITION. The protocol constants (R10) and the configuration CFG0 to CFG8 (R11, R12, R40) with its defaults.
The block has no free value: no operation leaves a result open. -/

namespace Sys2Proof
namespace Config

/-- FRAME_LEN: bytes of a FreeD frame, and the least length DEC accepts (R10). -/
abbrev frameLen : Nat := 29

/-- CHK_SPAN: how many leading bytes the checksum covers (R10). -/
abbrev chkSpan : Nat := 28

/-- CHK_OFF: byte offset of the checksum byte (R10). -/
abbrev chkOff : Nat := 28

/-- CHK_BASE: the constant the byte sum is subtracted from (R10). -/
abbrev chkBase : Nat := 64

/-- ROT_FRAC: fractional bits of a rotation (R10). -/
abbrev rotFrac : Nat := 15

/-- POS_FRAC: fractional bits of a position (R10). -/
abbrev posFrac : Nat := 6

end Config

/-- OVF_POLICY (CFG5): what ENQ does at a full queue (R12, R40; D8). -/
inductive OvfPolicy where
  | dropNewest
  | dropOldest
  deriving DecidableEq, Repr

/-- TICK_SOURCE (CFG6): what causes a release check (R12, R40; D13). -/
inductive TickSource where
  | arrival
  | external
  deriving DecidableEq, Repr

/-- QUEUE_CAP (CFG4): a number of frames, or INFINITE (R12, R40; D7). -/
inductive Capacity where
  | finite (n : Nat)
  | infinite
  deriving DecidableEq, Repr

/-- The configuration, one field per row CFG0 to CFG8 of R40. It is what the `cfg_*` inputs carry (R109). -/
structure Configuration where
  framesToBuffer : Nat
  rateNum : Nat
  rateDen : Nat
  tickHz : Nat
  queueCap : Capacity
  ovfPolicy : OvfPolicy
  tickSource : TickSource
  maxFrameLen : Nat
  tsW : Nat
  deriving DecidableEq, Repr

/-- The defaults of R40. DESIGN CHOICE (log 5): TICK_HZ and QUEUE_CAP are OPEN in the spec, and take here the values
it suggests. -/
def Configuration.default : Configuration where
  framesToBuffer := 8
  rateNum := 24
  rateDen := 1
  tickHz := 1000000
  queueCap := .finite 16
  ovfPolicy := .dropNewest
  tickSource := .arrival
  maxFrameLen := 1024
  tsW := 64

end Sys2Proof
end

