-- ==== Sys2Proof/Machine/CfgInputs.lean ====
section
/-! DEFINITION. The configuration inputs `cfg_*`, one per row of R40 (R109): the 1-bit codes of CFG5 and CFG6, what the inputs
carry of a configuration, and the configuration they are read as. -/

namespace Sys2Proof

/-- The 1-bit code of OVF_POLICY: 0 = DROP_NEWEST, 1 = DROP_OLDEST (R40, CFG5). -/
def OvfPolicy.code (p : OvfPolicy) : BitVec 1 :=
  match p with
  | .dropNewest => 0#1
  | .dropOldest => 1#1

/-- The overflow policy of a code (R40, CFG5). -/
def OvfPolicy.ofCode (b : BitVec 1) : OvfPolicy := if b = 0#1 then .dropNewest else .dropOldest

/-- The 1-bit code of TICK_SOURCE: 0 = ARRIVAL, 1 = EXTERNAL (R40, CFG6). -/
def TickSource.code (t : TickSource) : BitVec 1 :=
  match t with
  | .arrival => 0#1
  | .external => 1#1

/-- The tick source of a code (R40, CFG6). -/
def TickSource.ofCode (b : BitVec 1) : TickSource := if b = 0#1 then .arrival else .external

/-- The inputs `cfg_*`, each in the width or type R40 gives its row. R40 gives INFINITE no code, and the integers no width. -/
structure CfgInputs where
  framesToBuffer : Nat
  rateNum : Nat
  rateDen : Nat
  tickHz : Nat
  queueCap : Capacity
  ovfPolicy : BitVec 1
  tickSource : BitVec 1
  maxFrameLen : Nat
  tsW : Nat
  deriving DecidableEq, Repr

/-- The configuration that a RESET samples from the inputs (R40, R109). -/
def CfgInputs.read (x : CfgInputs) : Configuration where
  framesToBuffer := x.framesToBuffer
  rateNum := x.rateNum
  rateDen := x.rateDen
  tickHz := x.tickHz
  queueCap := x.queueCap
  ovfPolicy := .ofCode x.ovfPolicy
  tickSource := .ofCode x.tickSource
  maxFrameLen := x.maxFrameLen
  tsW := x.tsW

/-- What the inputs carry when the host holds a configuration on them (R40, R244). -/
def Configuration.inputs (c : Configuration) : CfgInputs where
  framesToBuffer := c.framesToBuffer
  rateNum := c.rateNum
  rateDen := c.rateDen
  tickHz := c.tickHz
  queueCap := c.queueCap
  ovfPolicy := c.ovfPolicy.code
  tickSource := c.tickSource.code
  maxFrameLen := c.maxFrameLen
  tsW := c.tsW

end Sys2Proof
end

