-- ==== Sys2Proof/Machine/Legal.lean ====
section
/-! DEFINITION. Which configurations are configurations of this hardware (R13, R40). -/

namespace Sys2Proof

/-- `n <= QUEUE_CAP`, always true of INFINITE. -/
def Capacity.holds (c : Capacity) (n : Nat) : Bool :=
  match c with
  | .finite k => decide (n ≤ k)
  | .infinite => true

/-- COUNT has reached a finite QUEUE_CAP (R36, the FULL flag). -/
def Capacity.reachedBy (c : Capacity) (n : Nat) : Bool :=
  match c with
  | .finite k => decide (n = k)
  | .infinite => false

/-- The constraints of R13, and the one legal value of TS_W (R40, CFG8). -/
def Configuration.legal (c : Configuration) : Bool :=
  decide (1 ≤ c.rateNum) && decide (1 ≤ c.rateDen) && decide (1 ≤ c.tickHz)
    && decide (Config.frameLen ≤ c.maxFrameLen)
    && c.queueCap.holds 1 && c.queueCap.holds c.framesToBuffer && decide (c.tsW = 64)

end Sys2Proof
end

