-- ==== Sys2Proof/Syntax.lean ====
section
/-! DEFINITION. The seventeen operations of the block (R4), one constructor per row of spec/opcode_table.json. -/

namespace Sys2Proof

/-- An operation with its operands. The first five are the events the host can cause (R190); the others are the three
contracts and the parts of DEC, which run inside events (R112). -/
inductive Instr where
  /-- IDLE, no event (R191). -/
  | idle
  /-- RX @now f, a frame arrival (R192, R193). -/
  | rx (now : Timestamp) (f : RawFrame)
  /-- TICK @now, the tick input alone (R194). -/
  | tick (now : Timestamp)
  /-- RXTICK @now f, a frame arrival and the tick input in one event (R195). -/
  | rxtick (now : Timestamp) (f : RawFrame)
  /-- RESET, with the configuration sampled from the `cfg_*` inputs (R196). -/
  | reset (cfg : Configuration)
  /-- DEC f, decode one RawFrame (R137). -/
  | dec (f : RawFrame)
  /-- CHK f, checksum compute and compare (R121). -/
  | chk (f : RawFrame)
  /-- XPITCH f (R129). -/
  | xpitch (f : RawFrame)
  /-- XYAW f (R130). -/
  | xyaw (f : RawFrame)
  /-- XROLL f (R131). -/
  | xroll (f : RawFrame)
  /-- XPOSZ f (R132). -/
  | xposz (f : RawFrame)
  /-- XPOSX f (R133). -/
  | xposx (f : RawFrame)
  /-- XPOSY f (R134). -/
  | xposy (f : RawFrame)
  /-- XZOOM f (R135). -/
  | xzoom (f : RawFrame)
  /-- XFOCUS f (R136). -/
  | xfocus (f : RawFrame)
  /-- ENQ f, append a frame to the tail (R161). -/
  | enq (f : RawFrame)
  /-- TRYREL @now, the release check (R169). -/
  | tryrel (now : Timestamp)
  deriving DecidableEq, Repr

end Sys2Proof
end

