-- ==== Sys2Proof/WellFormed.lean ====
section
/-! DEFINITION. Which operations have operands the spec admits, as far as the operation alone tells. The bound
MAX_FRAME_LEN of an inbound frame depends on the configuration in force and is checked where the frame is used. -/

namespace Sys2Proof

/-- CHK and the extractors need a frame of at least FRAME_LEN bytes (R17, R121, R129 to R136); RESET needs a legal
configuration (R13, R246). -/
def Instr.wf (i : Instr) : Bool :=
  match i with
  | .idle => true
  | .rx _ _ => true
  | .tick _ => true
  | .rxtick _ _ => true
  | .reset cfg => cfg.legal
  | .dec _ => true
  | .chk f => decide (Config.frameLen ≤ f.length)
  | .xpitch f => decide (Config.frameLen ≤ f.length)
  | .xyaw f => decide (Config.frameLen ≤ f.length)
  | .xroll f => decide (Config.frameLen ≤ f.length)
  | .xposz f => decide (Config.frameLen ≤ f.length)
  | .xposx f => decide (Config.frameLen ≤ f.length)
  | .xposy f => decide (Config.frameLen ≤ f.length)
  | .xzoom f => decide (Config.frameLen ≤ f.length)
  | .xfocus f => decide (Config.frameLen ≤ f.length)
  | .enq _ => true
  | .tryrel _ => true

end Sys2Proof
end

