-- ==== Sys2Proof/Decode.lean ====
section
/-! DEFINITION. From the ports to an operation and back: the beat protocol of the frame ports (R106, R107), the event
decoder (R102, R109), the operation table's rows as patterns over the ports (R113), and the encoder. The decoder is total;
what is no event of the block is rejected by name. -/

namespace Sys2Proof

/-! ## The frame ports -/

/-- One beat of a frame port: `valid`, `data`, `last`, `null` (R106, R107). -/
structure Beat where
  valid : Bool
  data : Byte
  last : Bool
  null : Bool
  deriving DecidableEq, Repr

/-- The beat that carries one byte (R106). -/
def Beat.ofByte (b : Byte) (last : Bool) : Beat :=
  { valid := true, data := b, last := last, null := false }

/-- The one beat of a zero-length frame (R106, D23); its data is ignored. DESIGN CHOICE: the model puts 0 there, for
the encoder on the inbound port (log 20) and for the block on the outbound port (log 24). -/
def Beat.ofEmpty : Beat :=
  { valid := true, data := 0, last := true, null := true }

/-- The beats of one frame, byte 0 first, `last` on the final beat only (R106, R107). -/
def frameBeats (f : RawFrame) : List Beat :=
  match f with
  | [] => [Beat.ofEmpty]
  | [b] => [Beat.ofByte b true]
  | b :: c :: rest => Beat.ofByte b false :: frameBeats (c :: rest)

/-- Why a group of beats is no frame: the host has broken its duties on the inbound port (R106, R231). -/
inductive Reject where
  /-- The beats end before one carries `last`. -/
  | incompleteFrame
  /-- A beat follows the one that carries `last`: a second frame begun in the event of the first. -/
  | interleavedFrames
  /-- `null` on a beat that is not the only beat of its frame. -/
  | misplacedNull
  deriving DecidableEq, Repr

/-- The bytes of a non-empty frame from its valid beats (R106). -/
def readDataBeats (bs : List Beat) : Except Reject RawFrame :=
  match bs with
  | [] => .error .incompleteFrame
  | b :: rest =>
    if b.null then .error .misplacedNull
    else if b.last then
      match rest with
      | [] => .ok [b.data]
      | _ :: _ => .error .interleavedFrames
    else
      match readDataBeats rest with
      | .ok f => .ok (b.data :: f)
      | .error e => .error e

/-- The frame that a group of valid beats carries: one null beat is the zero-length frame (R106). -/
def readBeats (bs : List Beat) : Except Reject RawFrame :=
  match bs with
  | [] => .error .incompleteFrame
  | b :: rest =>
    if b.null then
      match b.last, rest with
      | true, [] => .ok []
      | true, _ :: _ => .error .interleavedFrames
      | false, _ => .error .misplacedNull
    else readDataBeats (b :: rest)

/-! ## One event at the ports -/

/-- What the host presents at the input ports for one event (R106, R109). DESIGN CHOICE (log 3): `inbound` holds all the
beats of the frame whose last beat belongs to this event, so an event sees a complete frame or none. `cfg` is the
configuration that the `cfg_*` inputs are read as. -/
structure PortSample where
  rst : Bool
  tick : Bool
  inbound : List Beat
  now : Timestamp
  cfg : Configuration
  deriving DecidableEq, Repr

/-- What the host drives on the `cfg_*` inputs, the codes of CFG5 and CFG6 as bits (R40, R109). -/
def PortSample.cfgInputs (p : PortSample) : CfgInputs := p.cfg.inputs

/-- The beats that count: those with `valid` = 1. -/
def PortSample.beats (p : PortSample) : List Beat :=
  p.inbound.filter (fun b => b.valid)

/-- The `rx` bit of EVT: "1 at the beat carrying `in_last`" (R102, R106). -/
def PortSample.rx (p : PortSample) : Bool :=
  p.beats.any (fun b => b.last)

/-- EVT, `tick` the more significant bit (R102). -/
def PortSample.evt (p : PortSample) : BitVec 2 :=
  BitVec.ofBool p.tick ++ BitVec.ofBool p.rx

/-- The inbound frame, if one is presented. -/
def PortSample.frame (p : PortSample) : Except Reject (Option RawFrame) :=
  match p.beats with
  | [] => .ok none
  | b :: rest =>
    match readBeats (b :: rest) with
    | .ok f => .ok (some f)
    | .error e => .error e

/-- The event the host causes. `rst` overrides every other input (R109, R196); otherwise EVT selects (R102). The two codes
that TICK_SOURCE = ARRIVAL folds into IDLE and RX are read as TICK and RXTICK here, and folded by their meanings (log 7). -/
def decode (p : PortSample) : Except Reject Instr :=
  match p.rst with
  | true => .ok (.reset p.cfg)
  | false =>
    match p.frame with
    | .error e => .error e
    | .ok none =>
      match p.tick with
      | false => .ok .idle
      | true => .ok (.tick p.now)
    | .ok (some f) =>
      match p.tick with
      | false => .ok (.rx p.now f)
      | true => .ok (.rxtick p.now f)

/-! ## The operation table's rows -/

/-- The rows of spec/opcode_table.json. -/
inductive Row where
  | idle | rx | tick | rxtick | reset
  | dec | chk | xpitch | xyaw | xroll | xposz | xposx | xposy | xzoom | xfocus
  | enq | tryrel
  deriving DecidableEq, Repr

/-- The row an operation belongs to. -/
def Instr.row (i : Instr) : Row :=
  match i with
  | .idle => .idle
  | .rx _ _ => .rx
  | .tick _ => .tick
  | .rxtick _ _ => .rxtick
  | .reset _ => .reset
  | .dec _ => .dec
  | .chk _ => .chk
  | .xpitch _ => .xpitch
  | .xyaw _ => .xyaw
  | .xroll _ => .xroll
  | .xposz _ => .xposz
  | .xposx _ => .xposx
  | .xposy _ => .xposy
  | .xzoom _ => .xzoom
  | .xfocus _ => .xfocus
  | .enq _ => .enq
  | .tryrel _ => .tryrel

/-- `match` and `mask` of a format EVT row over `{tick, rx}`; `none` for the FRAME rows, which fix no bit, and for RESET,
which `rst` selects. The table gives them for EXTERNAL; the folding of R102 and TRYREL's second pattern are ARRIVAL's (R113). -/
def Row.evtPatterns (r : Row) (src : TickSource) : Option (List (BitVec 2 × BitVec 2)) :=
  match r, src with
  | .idle, .external => some [(0b00#2, 0b11#2)]
  | .idle, .arrival => some [(0b00#2, 0b11#2), (0b10#2, 0b11#2)]
  | .rx, .external => some [(0b01#2, 0b11#2)]
  | .rx, .arrival => some [(0b01#2, 0b11#2), (0b11#2, 0b11#2)]
  | .tick, .external => some [(0b10#2, 0b11#2)]
  | .tick, .arrival => some []
  | .rxtick, .external => some [(0b11#2, 0b11#2)]
  | .rxtick, .arrival => some []
  | .enq, _ => some [(0b01#2, 0b01#2)]
  | .tryrel, .external => some [(0b10#2, 0b10#2)]
  | .tryrel, .arrival => some [(0b01#2, 0b01#2)]
  | _, _ => none

/-- An event code fits a pattern. -/
def evtFits (code : BitVec 2) (pat : BitVec 2 × BitVec 2) : Bool :=
  (code &&& pat.2) == pat.1

/-- The operation of a given row that a port sample makes the block run, with its operands; `none` where that row does not
run (R102, R112, R113). The FRAME rows run on a frame that reaches them, CHK and the extractors on one of at least
FRAME_LEN bytes. -/
def decodeRow (r : Row) (src : TickSource) (p : PortSample) : Option Instr :=
  match r with
  | .reset => if p.rst then some (.reset p.cfg) else none
  | _ =>
    if p.rst then none
    else
      match p.frame with
      | .error _ => none
      | .ok frame =>
        let fits := match r.evtPatterns src with
          | some pats => pats.any (evtFits p.evt)
          | none => true
        if !fits then none
        else
          match r, frame with
          | .idle, _ => some .idle
          | .tick, _ => some (.tick p.now)
          | .tryrel, _ => some (.tryrel p.now)
          | .rx, some f => some (.rx p.now f)
          | .rxtick, some f => some (.rxtick p.now f)
          | .enq, some f => some (.enq f)
          | .dec, some f => some (.dec f)
          | .chk, some f => if Config.frameLen ≤ f.length then some (.chk f) else none
          | .xpitch, some f => if Config.frameLen ≤ f.length then some (.xpitch f) else none
          | .xyaw, some f => if Config.frameLen ≤ f.length then some (.xyaw f) else none
          | .xroll, some f => if Config.frameLen ≤ f.length then some (.xroll f) else none
          | .xposz, some f => if Config.frameLen ≤ f.length then some (.xposz f) else none
          | .xposx, some f => if Config.frameLen ≤ f.length then some (.xposx f) else none
          | .xposy, some f => if Config.frameLen ≤ f.length then some (.xposy f) else none
          | .xzoom, some f => if Config.frameLen ≤ f.length then some (.xzoom f) else none
          | .xfocus, some f => if Config.frameLen ≤ f.length then some (.xfocus f) else none
          | _, _ => none

/-! ## The encoder -/

/-- The ports with no event on them; the `cfg_*` inputs hold the configuration in force (R231, R244). -/
def PortSample.quiet (held : Configuration) : PortSample :=
  { rst := false, tick := false, inbound := [], now := 0, cfg := held }

/-- The port sample that makes the block run an operation: the event itself, or an event that invokes the part (TRYREL by
its EXTERNAL pattern) (R102, R109, R112, R113). `held` is the configuration in force. -/
def encode (held : Configuration) (i : Instr) : PortSample :=
  let quiet := PortSample.quiet held
  match i with
  | .idle => quiet
  | .rx now f => { quiet with inbound := frameBeats f, now := now }
  | .tick now => { quiet with tick := true, now := now }
  | .rxtick now f => { quiet with tick := true, inbound := frameBeats f, now := now }
  | .reset cfg => { quiet with rst := true, cfg := cfg }
  | .dec f => { quiet with inbound := frameBeats f }
  | .chk f => { quiet with inbound := frameBeats f }
  | .xpitch f => { quiet with inbound := frameBeats f }
  | .xyaw f => { quiet with inbound := frameBeats f }
  | .xroll f => { quiet with inbound := frameBeats f }
  | .xposz f => { quiet with inbound := frameBeats f }
  | .xposx f => { quiet with inbound := frameBeats f }
  | .xposy f => { quiet with inbound := frameBeats f }
  | .xzoom f => { quiet with inbound := frameBeats f }
  | .xfocus f => { quiet with inbound := frameBeats f }
  | .enq f => { quiet with inbound := frameBeats f }
  | .tryrel now => { quiet with tick := true, now := now }

/-! ## Words of the operation table -/

/-- The bytes of an `8 n`-bit frame word, byte `i` at bits `8 (n - i) - 1` down to `8 (n - 1 - i)` (R91 for n = 29). -/
def frameOfWord (n w : Nat) : RawFrame :=
  (List.range n).map (fun i => BitVec.ofNat 8 (w >>> (8 * (n - 1 - i))))

/-- A table word at the ports. A word of up to one byte is an EVT code, `rx` its bit 0 and `tick` its bit 1, with operands
zero; a longer word is a FRAME on the inbound port (log 8, log 9). -/
def tableSample (held : Configuration) (nbits w : Nat) : PortSample :=
  if nbits ≤ 8 then
    { PortSample.quiet held with
      tick := w.testBit 1
      inbound := if w.testBit 0 then frameBeats [] else [] }
  else
    { PortSample.quiet held with inbound := frameBeats (frameOfWord (nbits / 8) w) }

/-- The operation the event decoder reads from a table word (log 8, log 9). -/
def decodeTableWord (nbits w : Nat) : Option Instr :=
  match decode (tableSample Configuration.default nbits w) with
  | .ok i => some i
  | .error _ => none

end Sys2Proof
end

