-- ==== Sys2Proof/Machine/State.lean ====
section
/-! DEFINITION. What operations return, the machine's state (R33 to R45), the reasons a step can stop, and the state after
reset. -/

namespace Sys2Proof
namespace Machine

/-! ## What operations return -/

/-- A decoded rotation: the 24-bit two's-complement integer `s`, standing for `s / 2^15` degrees (R34, R125, R128). -/
structure Rotation where
  s : Field24
  deriving DecidableEq, Repr

/-- A decoded position: the 24-bit two's-complement integer `s`, standing for `s / 2^6` millimetres (R34, R126, R128). -/
structure Position where
  s : Field24
  deriving DecidableEq, Repr

/-- The FreeDFrame record, in FDC's order and names (R34). -/
structure FreeDFrame where
  pitch : Rotation
  yaw : Rotation
  roll : Rotation
  posz : Position
  posx : Position
  posy : Position
  zoom : Field24
  focus : Field24
  checksum : Byte
  deriving DecidableEq, Repr

/-- The closed taxonomy of decode errors (R210). -/
inductive DecodeError where
  | tooShort
  | checksumMismatch
  deriving DecidableEq, Repr

/-- A DecodeResult (R210); an error carries nothing (R214). -/
inductive DecodeResult where
  | ok (record : FreeDFrame)
  | err (e : DecodeError)
  deriving DecidableEq, Repr

/-- What CHK returns (R121). -/
structure CheckResult where
  computed : Byte
  stored : Byte
  ok : Bool
  deriving DecidableEq, Repr

/-- Which frame an overflow lost (R162, R163, R215). -/
inductive DropKind where
  | newest
  | oldest
  deriving DecidableEq, Repr

/-- What ENQ returns (R161 to R163). -/
inductive EnqResult where
  | noDrop
  | dropped (kind : DropKind) (frame : RawFrame)
  deriving DecidableEq, Repr

/-- What an operation returns: its `return` value in the spec's pseudocode. -/
inductive Result where
  /-- IDLE and RESET return nothing (R191, R196). -/
  | nothing
  /-- DEC (R137). -/
  | decode (d : DecodeResult)
  /-- CHK (R121). -/
  | check (c : CheckResult)
  /-- XPITCH, XYAW, XROLL (R129 to R131). -/
  | rotation (v : Rotation)
  /-- XPOSZ, XPOSX, XPOSY (R132 to R134). -/
  | position (v : Position)
  /-- XZOOM, XFOCUS (R135, R136). -/
  | lens (u : Field24)
  /-- ENQ (R161). -/
  | enqueue (o : EnqResult)
  /-- TRYREL and TICK: a Release (R164, R194). -/
  | release (r : Option RawFrame)
  /-- RX and RXTICK: `(d, o, r)` (R192, R193, R195). -/
  | relay (d : DecodeResult) (o : EnqResult) (r : Option RawFrame)
  deriving DecidableEq, Repr

/-! ## The state -/

/-- The machine's state. `queue`, `warm`, `lastSend`, `lastValid` are the four elements of R33 and `cfg` the configuration
sampled at the last RESET (R40). `inputs` and `result` are the MODEL's own: the host's side of the ports (log 1, log 2). -/
structure State where
  /-- QUEUE, oldest frame first (R35). -/
  queue : List RawFrame
  /-- WARM, the one-shot warm-up latch (R37). -/
  warm : Bool
  /-- LAST_SEND, the `now` of the most recent release (R38). -/
  lastSend : Timestamp
  /-- LAST_VALID, a release has happened since reset (R39). -/
  lastValid : Bool
  /-- CFG0 to CFG8 (R40). -/
  cfg : Configuration
  /-- DESIGN CHOICE (log 2): the port samples the host will present, the next one first. -/
  inputs : List PortSample
  /-- DESIGN CHOICE (log 1): what the operation just run returned; every output port is a function of it. -/
  result : Result
  deriving DecidableEq, Repr

/-- Why the machine stops with a fault. The block itself has no trap (R213, R216). -/
inductive Fault where
  /-- Raised by CHK and the eight extractors on an operand of fewer than FRAME_LEN bytes, outside their precondition (R17,
  R138). Safe: the block never runs them so (DEC tests the length first), and no event reaches this fault (log 11). -/
  | readPastFrame
  deriving DecidableEq, Repr

/-- Why an operation or an event has no meaning here. All but the first are host duties the spec says a model refuses. -/
inductive Refusal where
  /-- Raised by an arm of exec that has no meaning yet; no arm is. Safe. -/
  | notModelled (mnemonic : String)
  /-- Raised by the fetch of an event: the inbound beats are no frame (R106, R231). Safe. -/
  | badInbound (why : Reject)
  /-- Raised by the fetch of an event other than RESET whose `cfg_*` inputs differ from the configuration in force (R231). Safe. -/
  | configurationChanged
  /-- Raised by RESET for a configuration that breaks R13 (R246). Safe. -/
  | illegalConfiguration
  /-- Raised by RX, RXTICK and ENQ for a frame longer than MAX_FRAME_LEN (R231, D2). Safe. -/
  | frameTooLong
  deriving DecidableEq, Repr

/-- The machine right after RESET with the default configuration (R45, R196). Nothing is at the ports yet. -/
def State.reset : State where
  queue := []
  warm := false
  lastSend := 0
  lastValid := false
  cfg := Configuration.default
  inputs := []
  result := .nothing

end Machine
end Sys2Proof
end

