-- ==== Sys2Proof/Machine/Flags.lean ====
section
/-! DEFINITION. The derived flags and the tests of TRYREL: COUNT, EMPTY, FULL, the warm-up gate and the rate lock. -/

namespace Sys2Proof
namespace Machine

/-- COUNT, the number of frames queued (R35, R36). -/
def State.count (s : State) : Nat := s.queue.length

/-- EMPTY (R36). -/
def State.empty (s : State) : Bool := s.count == 0

/-- FULL: QUEUE_CAP is finite and COUNT has reached it (R36). -/
def State.full (s : State) : Bool := s.cfg.queueCap.reachedBy s.count

/-- WARM as the warm-up gate leaves it: set once COUNT has reached FRAMES_TO_BUFFER, never cleared (R165). -/
def State.warmAfterGate (s : State) : Bool := s.warm || decide (s.cfg.framesToBuffer ≤ s.count)

/-- Less than one period has elapsed from `last` to `now`, over the integers and with no rounding, a `now` earlier than
`last` included (R167, R173). -/
def withinPeriod (c : Configuration) (last now : Timestamp) : Bool :=
  decide (now.toNat < last.toNat)
    || decide ((now.toNat - last.toNat) * c.rateNum < c.tickHz * c.rateDen)

/-- The rate lock holds the release; it never holds before the first release (R39, R167, R172). -/
def State.held (s : State) (now : Timestamp) : Bool :=
  s.lastValid && withinPeriod s.cfg s.lastSend now

end Machine
end Sys2Proof
end

