-- ==== Sys2Proof/Machine/Ops.lean ====
section
/-! DEFINITION. The operations over the state that the meanings share: enqueue, the release check, construction, and taking
an event from the ports. The block has no exception entry and no return from one (R213, R222, R223), so there is no
operation for either. -/

namespace Sys2Proof
namespace Machine

/-- ENQ_overflow(f) (R162, R163). With DROP_OLDEST and an empty queue, which only the illegal QUEUE_CAP = 0 makes full,
there is no head to drop and the arriving frame is dropped (log 22). -/
def State.overflow (s : State) (f : RawFrame) : EnqResult × State :=
  match s.cfg.ovfPolicy, s.queue with
  | .dropNewest, _ => (.dropped .newest f, s)
  | .dropOldest, [] => (.dropped .newest f, s)
  | .dropOldest, d :: rest => (.dropped .oldest d, { s with queue := rest ++ [f] })

/-- ENQ(f): append at the tail unless the queue is full (R161). -/
def State.enqueue (s : State) (f : RawFrame) : EnqResult × State :=
  if s.full then s.overflow f else (.noDrop, { s with queue := s.queue ++ [f] })

/-- The release action: the head leaves and LAST_SEND, LAST_VALID are written (R168). -/
def State.releaseHead (s : State) (now : Timestamp) : Option RawFrame × State :=
  match s.queue with
  | [] => (none, s)
  | f :: rest => (some f, { s with queue := rest, lastSend := now, lastValid := true })

/-- TRYREL(now): the warm-up gate, the empty test, the rate lock and the release action, in this order (R165 to R169). -/
def State.tryRelease (s : State) (now : Timestamp) : Option RawFrame × State :=
  let s := { s with warm := s.warmAfterGate }
  if !s.warm then (none, s)
  else if s.empty then (none, s)
  else if s.held now then (none, s)
  else s.releaseHead now

/-- RESET(cfg): construct the block (R196). What the host has still to present stays the host's. -/
def State.construct (s : State) (cfg : Configuration) : State :=
  { s with queue := [], warm := false, lastSend := 0, lastValid := false, cfg := cfg }

/-- A frame the inbound port can carry: at most MAX_FRAME_LEN bytes (R12, R231). -/
def State.accepts (s : State) (f : RawFrame) : Bool := decide (f.length ≤ s.cfg.maxFrameLen)

/-- The operation a port sample makes a block with configuration `c` run; the host's duties of R231 are checked here. -/
def readSample (c : Configuration) (p : PortSample) : Except Refusal Instr :=
  match decode p with
  | .error e => .error (.badInbound e)
  | .ok i => if p.rst || p.cfg == c then .ok i else .error .configurationChanged

/-- Take the next event from the ports, and the state that remains; with nothing presented there is no event, which is IDLE
(R190, R191; log 2). -/
def State.fetch (s : State) : Except Refusal (Instr × State) :=
  match s.inputs with
  | [] => .ok (.idle, s)
  | p :: rest =>
    match readSample s.cfg p with
    | .error r => .error r
    | .ok i => .ok (i, { s with inputs := rest })

end Machine
end Sys2Proof
end

