-- ==== Sys2Proof/Machine/PacingBuffer.lean ====
section
/-! DEFINITION. The PacingBuffer's two contracts as operations (41_pacing_buffer.md): ENQ and TRYREL. -/

namespace Sys2Proof
namespace Machine

/-- ENQ (R161 to R163); its operand is a frame of at most MAX_FRAME_LEN bytes (R231). -/
def execEnq (f : RawFrame) (s : State) : Host.Outcome State Fault Refusal :=
  if s.accepts f then
    let e := s.enqueue f
    .next { e.2 with result := .enqueue e.1 }
  else .refused .frameTooLong

/-- TRYREL (R169). -/
def execTryrel (now : Timestamp) (s : State) : Host.Outcome State Fault Refusal :=
  let r := s.tryRelease now
  .next { r.2 with result := .release r.1 }

end Machine
end Sys2Proof
end

