-- ==== Sys2Proof/Machine/Operands.lean ====
section
/-! DEFINITION. Reading a frame's bytes: MemRead, the signed and unsigned field assemblies, the checksum's sum, and the
exact values a field stands for. -/

namespace Sys2Proof
namespace Machine

/-- `MemRead(o, 3)`: three bytes, big-endian (R17, R64, R93). Its precondition `o + 3 <= len(f)` is an argument, so no
byte past the frame can be read (R67, R138). -/
def memRead3 (f : RawFrame) (o : Nat) (h : o + 3 ≤ f.length) : Field24 :=
  f[o]'(by omega) ++ f[o + 1]'(by omega) ++ f[o + 2]'(by omega)

/-- Class S24 (R94, R124): `s = signed_24(P)`, kept as its own pattern. -/
def signed24 (p : Field24) : Int := p.toInt

/-- Class U24 (R95, R127): the pattern read unsigned. -/
def unsigned24 (p : Field24) : Nat := p.toNat

/-- Rotation scaling: `s / 2^15` degrees, exactly (R96, R125, R128). -/
def Rotation.degrees (r : Rotation) : Rat := (signed24 r.s : Rat) / (2 ^ Config.rotFrac : Nat)

/-- Position scaling: `s / 2^6` millimetres, exactly (R96, R126, R128). -/
def Position.millimetres (p : Position) : Rat := (signed24 p.s : Rat) / (2 ^ Config.posFrac : Nat)

/-- `S = f[0] + ... + f[27]` over the naturals (R121). -/
def byteSum (f : RawFrame) : Nat := ((f.take Config.chkSpan).map (fun b => b.toNat)).sum

/-- `(64 - S) mod 256`, never negative (R16, R121). -/
def computedChecksum (f : RawFrame) : Byte :=
  BitVec.ofNat 8 (((Config.chkBase : Int) - (byteSum f : Int)) % 256).toNat

end Machine
end Sys2Proof
end

