-- ==== Sys2Proof/Machine/Decoder.lean ====
section
/-! DEFINITION. The Decoder (40_decoder.md): CHK, the eight extractors and DEC as pure functions of a frame, and the meaning
of each as an operation. A meaning only records what the operation returns: the Decoder writes no state (R120). -/

namespace Sys2Proof
namespace Machine

/-! ## Pure functions -/

/-- CHK(f) (R121). -/
def checkFrame (f : RawFrame) (h : Config.frameLen ≤ f.length) : CheckResult :=
  let computed := computedChecksum f
  let stored := f[Config.chkOff]'(Nat.lt_of_lt_of_le (by decide) h)
  { computed := computed, stored := stored, ok := computed == stored }

/-- XPITCH(f): bytes [2:5) (R129). -/
def extractPitch (f : RawFrame) (h : Config.frameLen ≤ f.length) : Rotation :=
  ⟨memRead3 f 2 (Nat.le_trans (by decide) h)⟩

/-- XYAW(f): bytes [5:8) (R130). -/
def extractYaw (f : RawFrame) (h : Config.frameLen ≤ f.length) : Rotation :=
  ⟨memRead3 f 5 (Nat.le_trans (by decide) h)⟩

/-- XROLL(f): bytes [8:11) (R131). -/
def extractRoll (f : RawFrame) (h : Config.frameLen ≤ f.length) : Rotation :=
  ⟨memRead3 f 8 (Nat.le_trans (by decide) h)⟩

/-- XPOSZ(f): bytes [11:14) (R132). -/
def extractPosz (f : RawFrame) (h : Config.frameLen ≤ f.length) : Position :=
  ⟨memRead3 f 11 (Nat.le_trans (by decide) h)⟩

/-- XPOSX(f): bytes [14:17) (R133). -/
def extractPosx (f : RawFrame) (h : Config.frameLen ≤ f.length) : Position :=
  ⟨memRead3 f 14 (Nat.le_trans (by decide) h)⟩

/-- XPOSY(f): bytes [17:20) (R134). -/
def extractPosy (f : RawFrame) (h : Config.frameLen ≤ f.length) : Position :=
  ⟨memRead3 f 17 (Nat.le_trans (by decide) h)⟩

/-- XZOOM(f): bytes [20:23), unsigned and unscaled (R135, R142). -/
def extractZoom (f : RawFrame) (h : Config.frameLen ≤ f.length) : Field24 :=
  memRead3 f 20 (Nat.le_trans (by decide) h)

/-- XFOCUS(f): bytes [23:26), unsigned and unscaled (R136, R142). -/
def extractFocus (f : RawFrame) (h : Config.frameLen ≤ f.length) : Field24 :=
  memRead3 f 23 (Nat.le_trans (by decide) h)

/-- The record DEC returns on success (R34, R137). -/
def extractRecord (f : RawFrame) (h : Config.frameLen ≤ f.length) : FreeDFrame where
  pitch := extractPitch f h
  yaw := extractYaw f h
  roll := extractRoll f h
  posz := extractPosz f h
  posx := extractPosx f h
  posy := extractPosy f h
  zoom := extractZoom f h
  focus := extractFocus f h
  checksum := f[Config.chkOff]'(Nat.lt_of_lt_of_le (by decide) h)

/-- DEC(f): the length first, then the checksum, then the fields (R137, R138). -/
def decodeFrame (f : RawFrame) : DecodeResult :=
  if h : f.length < Config.frameLen then .err .tooShort
  else if (checkFrame f (Nat.le_of_not_lt h)).ok then .ok (extractRecord f (Nat.le_of_not_lt h))
  else .err .checksumMismatch

/-! ## Meanings -/

/-- DEC. -/
def execDec (f : RawFrame) (s : State) : Host.Outcome State Fault Refusal :=
  .next { s with result := .decode (decodeFrame f) }

/-- CHK; its precondition is `len(f) >= 29` (R121). -/
def execChk (f : RawFrame) (s : State) : Host.Outcome State Fault Refusal :=
  if h : Config.frameLen ≤ f.length then .next { s with result := .check (checkFrame f h) } else .fault .readPastFrame

/-- XPITCH. -/
def execXpitch (f : RawFrame) (s : State) : Host.Outcome State Fault Refusal :=
  if h : Config.frameLen ≤ f.length then .next { s with result := .rotation (extractPitch f h) } else .fault .readPastFrame

/-- XYAW. -/
def execXyaw (f : RawFrame) (s : State) : Host.Outcome State Fault Refusal :=
  if h : Config.frameLen ≤ f.length then .next { s with result := .rotation (extractYaw f h) } else .fault .readPastFrame

/-- XROLL. -/
def execXroll (f : RawFrame) (s : State) : Host.Outcome State Fault Refusal :=
  if h : Config.frameLen ≤ f.length then .next { s with result := .rotation (extractRoll f h) } else .fault .readPastFrame

/-- XPOSZ. -/
def execXposz (f : RawFrame) (s : State) : Host.Outcome State Fault Refusal :=
  if h : Config.frameLen ≤ f.length then .next { s with result := .position (extractPosz f h) } else .fault .readPastFrame

/-- XPOSX. -/
def execXposx (f : RawFrame) (s : State) : Host.Outcome State Fault Refusal :=
  if h : Config.frameLen ≤ f.length then .next { s with result := .position (extractPosx f h) } else .fault .readPastFrame

/-- XPOSY. -/
def execXposy (f : RawFrame) (s : State) : Host.Outcome State Fault Refusal :=
  if h : Config.frameLen ≤ f.length then .next { s with result := .position (extractPosy f h) } else .fault .readPastFrame

/-- XZOOM. -/
def execXzoom (f : RawFrame) (s : State) : Host.Outcome State Fault Refusal :=
  if h : Config.frameLen ≤ f.length then .next { s with result := .lens (extractZoom f h) } else .fault .readPastFrame

/-- XFOCUS. -/
def execXfocus (f : RawFrame) (s : State) : Host.Outcome State Fault Refusal :=
  if h : Config.frameLen ≤ f.length then .next { s with result := .lens (extractFocus f h) } else .fault .readPastFrame

end Machine
end Sys2Proof
end

