-- ==== Sys2Proof/Machine/Relay.lean ====
section
/-! DEFINITION. The interface events (42_relay_events.md): IDLE, RX, TICK, RXTICK, RESET. -/

namespace Sys2Proof
namespace Machine

/-- Decode and enqueue with no release check (R193). -/
def State.relayHeld (s : State) (f : RawFrame) : State :=
  let e := s.enqueue f
  { e.2 with result := .relay (decodeFrame f) e.1 none }

/-- Decode, enqueue, one release check, in this order (R192, R195). -/
def State.relayChecked (s : State) (now : Timestamp) (f : RawFrame) : State :=
  let e := s.enqueue f
  let r := e.2.tryRelease now
  { r.2 with result := .relay (decodeFrame f) e.1 r.1 }

/-- IDLE: no event. The state is unchanged and no output port is driven (R191; log 18). -/
def execIdle (s : State) : Host.Outcome State Fault Refusal :=
  .next { s with result := .nothing }

/-- RX: the release check is part of it only under TICK_SOURCE = ARRIVAL (R192, R193). -/
def execRx (now : Timestamp) (f : RawFrame) (s : State) : Host.Outcome State Fault Refusal :=
  if s.accepts f then
    match s.cfg.tickSource with
    | .arrival => .next (s.relayChecked now f)
    | .external => .next (s.relayHeld f)
  else .refused .frameTooLong

/-- TICK: the release check under EXTERNAL; under ARRIVAL the tick input is ignored and the event is IDLE (R194, R102). -/
def execTick (now : Timestamp) (s : State) : Host.Outcome State Fault Refusal :=
  match s.cfg.tickSource with
  | .arrival => .next { s with result := .nothing }
  | .external =>
    let r := s.tryRelease now
    .next { r.2 with result := .release r.1 }

/-- RXTICK: enqueue before the release check; under ARRIVAL the tick input is ignored and it is RX (R195, R102). -/
def execRxtick (now : Timestamp) (f : RawFrame) (s : State) : Host.Outcome State Fault Refusal :=
  if s.accepts f then .next (s.relayChecked now f) else .refused .frameTooLong

/-- RESET: a configuration that breaks R13 is refused (R196, R246). -/
def execReset (cfg : Configuration) (s : State) : Host.Outcome State Fault Refusal :=
  if cfg.legal then .next { s.construct cfg with result := .nothing } else .refused .illegalConfiguration

end Machine
end Sys2Proof
end

