-- ==== Sys2Proof/Machine/Dispatch.lean ====
section
/-! DEFINITION. One arm per operation of spec/opcode_table.json, each a call of its meaning. -/

namespace Sys2Proof
namespace Machine

def exec (i : Instr) (s : State) : Host.Outcome State Fault Refusal :=
  match i with
  | .idle => Sys2Proof.Machine.execIdle s
  | .rx now f => Sys2Proof.Machine.execRx now f s
  | .tick now => Sys2Proof.Machine.execTick now s
  | .rxtick now f => Sys2Proof.Machine.execRxtick now f s
  | .reset cfg => Sys2Proof.Machine.execReset cfg s
  | .dec f => Sys2Proof.Machine.execDec f s
  | .chk f => Sys2Proof.Machine.execChk f s
  | .xpitch f => Sys2Proof.Machine.execXpitch f s
  | .xyaw f => Sys2Proof.Machine.execXyaw f s
  | .xroll f => Sys2Proof.Machine.execXroll f s
  | .xposz f => Sys2Proof.Machine.execXposz f s
  | .xposx f => Sys2Proof.Machine.execXposx f s
  | .xposy f => Sys2Proof.Machine.execXposy f s
  | .xzoom f => Sys2Proof.Machine.execXzoom f s
  | .xfocus f => Sys2Proof.Machine.execXfocus f s
  | .enq f => Sys2Proof.Machine.execEnq f s
  | .tryrel now => Sys2Proof.Machine.execTryrel now s

end Machine
end Sys2Proof
end

