-- ==== Sys2Proof/Machine/Step.lean ====
section
/-! DEFINITION. One step: take the next event from the ports and run it to completion (R69, R190). -/

namespace Sys2Proof
namespace Machine

/-- One step of the block. -/
def step (s : State) : Host.Outcome State Fault Refusal :=
  match s.fetch with
  | .error r => .refused r
  | .ok (i, t) => exec i t

/-- `s` with a table word as the next event at the ports (log 4, log 8, log 9). -/
def State.withFetchWord (s : State) (nbits w : Nat) : State :=
  { s with inputs := tableSample s.cfg nbits w :: s.inputs }

end Machine
end Sys2Proof
end

