-- ==== Sys2Proof/Machine/Ports.lean ====
section
/-! DEFINITION. The output ports as functions of the state: the REC word (R104, R105), the notifications in their order
(R200, R219), the outbound frame port (R107) and the status outputs (R41). -/

namespace Sys2Proof
namespace Machine

/-- The status code of a DecodeResult (R105). -/
def DecodeResult.status (d : DecodeResult) : BitVec 2 :=
  match d with
  | .ok _ => 0b00#2
  | .err .tooShort => 0b01#2
  | .err .checksumMismatch => 0b10#2

/-- The 202 bits of REC for a successful decode, status first (R104). -/
def FreeDFrame.word (r : FreeDFrame) : BitVec 202 :=
  0b00#2 ++ r.pitch.s ++ r.yaw.s ++ r.roll.s ++ r.posz.s ++ r.posx.s ++ r.posy.s ++ r.zoom ++ r.focus ++ r.checksum

/-- REC; after an error its field bits have no value and the model gives none (R104, R214, U7; log 16). -/
def DecodeResult.word (d : DecodeResult) : Option (BitVec 202) :=
  match d with
  | .ok r => some r.word
  | .err _ => none

/-- `ovf_kind`: 0 newest, 1 oldest (R215, R219). -/
def DropKind.code (k : DropKind) : BitVec 1 :=
  match k with
  | .newest => 0#1
  | .oldest => 1#1

/-- One output of an operation: `dec_valid` with its REC, `ovf_valid` with its kind, `rel_valid` with the outbound frame's
beats (R107, R108, R219). -/
inductive Output where
  | decoded (status : BitVec 2) (rec : Option (BitVec 202))
  | overflow (kind : BitVec 1)
  | released (beats : List Beat)
  deriving DecidableEq, Repr

/-- The decode result port (R108). -/
def DecodeResult.output (d : DecodeResult) : Output := .decoded d.status d.word

/-- The overflow notification, if any (R215). -/
def EnqResult.outputs (o : EnqResult) : List Output :=
  match o with
  | .noDrop => []
  | .dropped k _ => [.overflow k.code]

/-- The outbound frame and `rel_valid`, if a frame was released (R107, R171). DESIGN CHOICE (log 24): on the one null beat of a
released zero-length frame, whose `out_data` the spec gives no value, the model drives 0. -/
def releaseOutputs (r : Option RawFrame) : List Output :=
  match r with
  | none => []
  | some f => [.released (frameBeats f)]

/-- All the outputs of an operation, in the order they appear (R200, R221). The parts of DEC drive no port. -/
def Result.outputs (v : Result) : List Output :=
  match v with
  | .nothing => []
  | .decode d => [d.output]
  | .check _ => []
  | .rotation _ => []
  | .position _ => []
  | .lens _ => []
  | .enqueue o => o.outputs
  | .release r => releaseOutputs r
  | .relay d o r => d.output :: (o.outputs ++ releaseOutputs r)

/-- The frame an operation released, if any (R164). -/
def Result.released (v : Result) : Option RawFrame :=
  match v with
  | .release r => r
  | .relay _ _ r => r
  | _ => none

/-- The status outputs (R41). -/
structure Status where
  qCount : Nat
  qWarm : Bool
  qEmpty : Bool
  qFull : Bool
  deriving DecidableEq, Repr

/-- What the status ports show of a state (R36, R41). -/
def State.status (s : State) : Status where
  qCount := s.count
  qWarm := s.warm
  qEmpty := s.empty
  qFull := s.full

end Machine
end Sys2Proof
end

