-- ==== Sys2Proof/Safety.lean ====
section
/-! DEFINITION. The terms claims are made in: the invariants of the state, the trace of a run and what it released and was
presented, what two runs may differ in, and the design that latches WARM in ENQ (R165, D14). -/

namespace Sys2Proof

/-- The frame an event brings to ENQ. -/
def Instr.arriving (i : Instr) : Option RawFrame :=
  match i with
  | .rx _ f => some f
  | .rxtick _ f => some f
  | .enq f => some f
  | _ => none

/-- The operation is RESET. -/
def Instr.isReset (i : Instr) : Bool :=
  match i with
  | .reset _ => true
  | _ => false

namespace Machine

/-! ## What the spec's formulas say of a frame's bytes -/

/-- The pattern of the 3-byte group at offset `o` is `b0·65536 + b1·256 + b2` (R64, R93). -/
abbrev FieldAt (f : RawFrame) (o : Nat) (p : Field24) : Prop :=
  ∃ b0 b1 b2 : Byte, f[o]? = some b0 ∧ f[o + 1]? = some b1 ∧ f[o + 2]? = some b2
    ∧ p.toNat = b0.toNat * 65536 + b1.toNat * 256 + b2.toNat

/-- `signed_24(P)`: P below 2^23, else P - 2^24 (R16). -/
def signedValue (p : Nat) : Int := if p < 2 ^ 23 then (p : Int) else (p : Int) - 2 ^ 24

/-- The sum of the first `n` bytes, read unsigned. -/
def sumOfFirst (n : Nat) (f : RawFrame) : Nat := ((f.take n).map (fun b => b.toNat)).sum

/-- Byte 28 is `(64 - Σ bytes[0..27]) mod 256` (R97, R121). -/
abbrev ChecksumHolds (f : RawFrame) : Prop :=
  ∃ c : Byte, f[28]? = some c ∧ (c.toNat : Int) = (64 - (sumOfFirst 28 f : Int)) % 256

/-- The record holds the frame's fields at their offsets, in FDC's order (R34, R71). -/
abbrev RecordOf (f : RawFrame) (r : FreeDFrame) : Prop :=
  FieldAt f 2 r.pitch.s ∧ FieldAt f 5 r.yaw.s ∧ FieldAt f 8 r.roll.s
    ∧ FieldAt f 11 r.posz.s ∧ FieldAt f 14 r.posx.s ∧ FieldAt f 17 r.posy.s
    ∧ FieldAt f 20 r.zoom ∧ FieldAt f 23 r.focus ∧ f[28]? = some r.checksum

/-- The constraints of R13, with the one legal TS_W of R40. -/
abbrev Constraints (c : Configuration) : Prop :=
  1 ≤ c.rateNum ∧ 1 ≤ c.rateDen ∧ 1 ≤ c.tickHz ∧ 29 ≤ c.maxFrameLen
    ∧ (∀ n, c.queueCap = .finite n → 1 ≤ n ∧ c.framesToBuffer ≤ n) ∧ c.tsW = 64

/-- At least one period has elapsed from `last` to `now` (R167). -/
abbrev PeriodElapsed (c : Configuration) (last now : Timestamp) : Prop :=
  last.toNat ≤ now.toNat ∧ c.tickHz * c.rateDen ≤ (now.toNat - last.toNat) * c.rateNum

/-! ## Invariants -/

/-- What every step keeps: a legal configuration (R13), COUNT within QUEUE_CAP (R35), every queued frame within MAX_FRAME_LEN
(R20, R35), no release before the warm-up gate opened (R165, R168), and LAST_SEND at its reset value before the first release
(R38, R45). -/
abbrev State.Inv (s : State) : Prop :=
  s.cfg.legal = true ∧ s.cfg.queueCap.holds s.count = true ∧ (∀ f ∈ s.queue, f.length ≤ s.cfg.maxFrameLen)
    ∧ (s.lastValid = true → s.warm = true) ∧ (s.lastValid = false → s.lastSend = 0)

/-- What every step keeps under TICK_SOURCE = ARRIVAL, where each arrival is followed by its own release check: WARM and
LAST_VALID are set together, and while both are clear QUEUE is below the threshold or empty (R165, R192, R241). -/
abbrev State.ArrivalInv (s : State) : Prop :=
  s.cfg.tickSource = .arrival →
    s.warm = s.lastValid ∧ (s.warm = false → s.count = 0 ∨ s.count < s.cfg.framesToBuffer)

/-! ## Runs -/

/-- The operations run in the next `k` steps, each with the state after it; the trace ends where the run stops. -/
def State.trace (k : Nat) (s : State) : List (Instr × State) :=
  match k with
  | 0 => []
  | k + 1 =>
    match s.fetch, step s with
    | .ok (i, _), .next t => (i, t) :: t.trace k
    | _, _ => []

/-- The state a run has reached. -/
def State.after (k : Nat) (s : State) : State :=
  match (s.trace k).getLast? with
  | some (_, t) => t
  | none => s

/-- The frames released in a trace, in order. -/
def releasedFrames (tr : List (Instr × State)) : List RawFrame :=
  tr.filterMap (fun e => e.2.result.released)

/-- The frames presented in a trace, in order. -/
def presentedFrames (tr : List (Instr × State)) : List RawFrame :=
  tr.filterMap (fun e => e.1.arriving)

/-- The timestamps of a trace's releases, in order: each is the LAST_SEND its release wrote (R168). -/
def releaseTimes (tr : List (Instr × State)) : List Timestamp :=
  tr.filterMap (fun e => e.2.result.released.map (fun _ => e.2.lastSend))

/-- No RESET happens in a trace. -/
abbrev NoReset (tr : List (Instr × State)) : Prop := ∀ e ∈ tr, e.1.isReset = false

/-! ## Two runs that differ in their frames only (R198) -/

/-- Which frame an operation dropped, as its kind. -/
def Result.dropKind (v : Result) : Option DropKind :=
  match v with
  | .enqueue (.dropped k _) => some k
  | .relay _ (.dropped k _) _ => some k
  | _ => none

/-- The pacing of two states is the same: COUNT, WARM, LAST_SEND, LAST_VALID, the configuration, and whether the operation just
run dropped and released a frame. -/
abbrev PacingEq (s t : State) : Prop :=
  s.count = t.count ∧ s.warm = t.warm ∧ s.lastSend = t.lastSend ∧ s.lastValid = t.lastValid ∧ s.cfg = t.cfg
    ∧ s.result.dropKind = t.result.dropKind ∧ s.result.released.isSome = t.result.released.isSome

/-- Two port samples that differ at most in the bytes and the length of the inbound frame. -/
abbrev SameButFrame (p q : PortSample) : Prop :=
  p.rst = q.rst ∧ p.tick = q.tick ∧ p.rx = q.rx ∧ p.now = q.now ∧ p.cfg = q.cfg

/-! ## The design that latches WARM in ENQ (R165, D14) -/

/-- An invocation of one of the PacingBuffer's two contracts. -/
inductive BufferOp where
  | enq (f : RawFrame)
  | tryrel (now : Timestamp)
  deriving DecidableEq, Repr

/-- The releases of a sequence of invocations, WARM being set in TRYREL as in this hardware. -/
def bufferReleases (s : State) (ops : List BufferOp) : List (Option RawFrame) :=
  match ops with
  | [] => []
  | .enq f :: rest => bufferReleases (s.enqueue f).2 rest
  | .tryrel now :: rest => (s.tryRelease now).1 :: bufferReleases (s.tryRelease now).2 rest

/-- ENQ of the other design: it sets WARM at the moment COUNT reaches the threshold. -/
def State.enqueueLatching (s : State) (f : RawFrame) : State :=
  { (s.enqueue f).2 with warm := (s.enqueue f).2.warmAfterGate }

/-- TRYREL of the other design: it only reads WARM. -/
def State.tryReleaseUnlatched (s : State) (now : Timestamp) : Option RawFrame × State :=
  if !s.warm then (none, s)
  else if s.empty then (none, s)
  else if s.held now then (none, s)
  else s.releaseHead now

/-- The releases of a sequence of invocations in the other design. -/
def latchingReleases (s : State) (ops : List BufferOp) : List (Option RawFrame) :=
  match ops with
  | [] => []
  | .enq f :: rest => latchingReleases (s.enqueueLatching f) rest
  | .tryrel now :: rest => (s.tryReleaseUnlatched now).1 :: latchingReleases (s.tryReleaseUnlatched now).2 rest

end Machine
end Sys2Proof
end

