-- ==== Sys2Proof/Certificates/Slice0/Obligations.lean ====
section
/-! DEFINITION. The statements for the provers, one `def Obligations.<Name> : Prop` each. A next state is written as the
state before with the fields the operation writes, so an equation states the result and the frame at once. -/

open Sys2Proof Sys2Proof.Machine

/-! ## The Decoder -/

/-- R137: DEC gives TooShort below 29 bytes, else ChecksumMismatch unless the checksum holds, else the record of the frame's
bytes. It writes no state and always completes. -/
def Obligations.DecClassifiesEveryFrame : Prop :=
  ∀ (f : RawFrame) (s : State),
    (f.length < 29 → exec (.dec f) s = .next { s with result := .decode (.err .tooShort) })
    ∧ (29 ≤ f.length → ¬ ChecksumHolds f → exec (.dec f) s = .next { s with result := .decode (.err .checksumMismatch) })
    ∧ (29 ≤ f.length → ChecksumHolds f →
        ∃ r, exec (.dec f) s = .next { s with result := .decode (.ok r) } ∧ RecordOf f r)

/-- R121: CHK returns the computed checksum, the stored one and whether they agree, and writes nothing. -/
def Obligations.ChkComparesComputedWithStored : Prop :=
  ∀ (f : RawFrame) (s : State), 29 ≤ f.length →
    ∃ c : CheckResult, exec (.chk f) s = .next { s with result := .check c }
      ∧ (c.computed.toNat : Int) = (64 - (sumOfFirst 28 f : Int)) % 256
      ∧ f[28]? = some c.stored
      ∧ c.ok = decide (c.computed = c.stored)

/-- R129 to R131: XPITCH, XYAW, XROLL return `signed_24` of their three bytes, which stands for that integer over 32768
degrees. -/
def Obligations.RotationExtractorsReadTheirFields : Prop :=
  ∀ (f : RawFrame) (s : State), 29 ≤ f.length →
    (∃ v : Rotation, exec (.xpitch f) s = .next { s with result := .rotation v } ∧ FieldAt f 2 v.s
      ∧ v.degrees = (signedValue v.s.toNat : Rat) / 32768)
    ∧ (∃ v : Rotation, exec (.xyaw f) s = .next { s with result := .rotation v } ∧ FieldAt f 5 v.s
      ∧ v.degrees = (signedValue v.s.toNat : Rat) / 32768)
    ∧ (∃ v : Rotation, exec (.xroll f) s = .next { s with result := .rotation v } ∧ FieldAt f 8 v.s
      ∧ v.degrees = (signedValue v.s.toNat : Rat) / 32768)

/-- R132 to R134: XPOSZ, XPOSX, XPOSY return `signed_24` of their three bytes, which stands for that integer over 64
millimetres. -/
def Obligations.PositionExtractorsReadTheirFields : Prop :=
  ∀ (f : RawFrame) (s : State), 29 ≤ f.length →
    (∃ v : Position, exec (.xposz f) s = .next { s with result := .position v } ∧ FieldAt f 11 v.s
      ∧ v.millimetres = (signedValue v.s.toNat : Rat) / 64)
    ∧ (∃ v : Position, exec (.xposx f) s = .next { s with result := .position v } ∧ FieldAt f 14 v.s
      ∧ v.millimetres = (signedValue v.s.toNat : Rat) / 64)
    ∧ (∃ v : Position, exec (.xposy f) s = .next { s with result := .position v } ∧ FieldAt f 17 v.s
      ∧ v.millimetres = (signedValue v.s.toNat : Rat) / 64)

/-- R135, R136: XZOOM and XFOCUS return their three bytes read unsigned and unscaled. -/
def Obligations.LensExtractorsReadUnsigned : Prop :=
  ∀ (f : RawFrame) (s : State), 29 ≤ f.length →
    (∃ u : Field24, exec (.xzoom f) s = .next { s with result := .lens u } ∧ FieldAt f 20 u
      ∧ unsigned24 u = u.toNat)
    ∧ (∃ u : Field24, exec (.xfocus f) s = .next { s with result := .lens u } ∧ FieldAt f 23 u
      ∧ unsigned24 u = u.toNat)

/-- R124: the 32-bit signed intermediate v is 256 times `signed_24` of the group, in range, and negative exactly when bit 7 of
b0 is 1. -/
def Obligations.SignedAssemblyByWayOf32Bits : Prop :=
  ∀ b0 b1 b2 : Byte,
    let v : Int := ((b0.setWidth 32 <<< 24) ||| (b1.setWidth 32 <<< 16) ||| (b2.setWidth 32 <<< 8)).toInt
    let s : Int := signed24 (b0 ++ b1 ++ b2)
    v = 256 * s ∧ s = signedValue (b0.toNat * 65536 + b1.toNat * 256 + b2.toNat)
      ∧ -8388608 ≤ s ∧ s ≤ 8388607 ∧ (s < 0 ↔ b0.getLsbD 7 = true)

/-- R125, R126: the exact values of rotations and positions, and their ranges. -/
def Obligations.ScaledValuesAreExactAndInRange : Prop :=
  (∀ r : Rotation, r.degrees = (r.s.toInt : Rat) / 2 ^ 15 ∧ -256 ≤ r.degrees ∧ r.degrees ≤ 256 - 1 / 2 ^ 15)
  ∧ (∀ p : Position, p.millimetres = (p.s.toInt : Rat) / 2 ^ 6 ∧ -131072 ≤ p.millimetres
      ∧ p.millimetres ≤ 131072 - 1 / 2 ^ 6)

/-- R122: the computed checksum is an 8-bit accumulator started at 0x40 from which the 28 bytes are subtracted, and it holds
exactly when the first 29 bytes sum to 64 modulo 256. -/
def Obligations.ChecksumIsAnAccumulator : Prop :=
  ∀ f : RawFrame, 29 ≤ f.length →
    computedChecksum f = (f.take 28).foldl (fun acc b => acc - b) 0x40#8
    ∧ (ChecksumHolds f ↔ sumOfFirst 29 f % 256 = 64)

/-- R123: in a frame that decodes, flipping any one bit of bytes [0:29) gives ChecksumMismatch. -/
def Obligations.EverySingleBitFlipIsDetected : Prop :=
  ∀ (f : RawFrame) (s : State) (r : FreeDFrame) (i k : Nat) (b : Byte),
    exec (.dec f) s = .next { s with result := .decode (.ok r) } →
    i < 29 → k < 8 → f[i]? = some b →
    exec (.dec (f.set i (b ^^^ (1#8 <<< k)))) s = .next { s with result := .decode (.err .checksumMismatch) }

/-- R253: exchanging any two of bytes [0:29) of a frame that decodes goes undetected. -/
def Obligations.ExchangedBytesGoUndetected : Prop :=
  ∀ (f : RawFrame) (s : State) (r : FreeDFrame) (i j : Nat) (a b : Byte),
    exec (.dec f) s = .next { s with result := .decode (.ok r) } →
    i < 29 → j < 29 → f[i]? = some a → f[j]? = some b →
    ∃ r', exec (.dec ((f.set i b).set j a)) s = .next { s with result := .decode (.ok r') }

/-- R139: a frame of more than 29 bytes decodes as its first 29. -/
def Obligations.LongFramesDecodeByTheirFirst29Bytes : Prop :=
  ∀ (f : RawFrame) (s : State), 29 < f.length → exec (.dec f) s = exec (.dec (f.take 29)) s

/-- R140: each of the 2^224 ways of filling bytes [0:28) decodes Ok with exactly one byte 28. -/
def Obligations.EveryPayloadHasOneChecksumByte : Prop :=
  ∀ (g : RawFrame) (s : State), g.length = 28 →
    ∃! c : Byte, ∃ r, exec (.dec (g ++ [c])) s = .next { s with result := .decode (.ok r) }

/-- R120: what the Decoder and its parts return depends on the frame only, and nothing but the returned value changes. -/
def Obligations.DecoderIsPure : Prop :=
  (∀ f : RawFrame, ∃ v : Result, ∀ s : State, exec (.dec f) s = .next { s with result := v })
  ∧ ∀ (f : RawFrame) (i : Instr), 29 ≤ f.length →
      i ∈ [.chk f, .xpitch f, .xyaw f, .xroll f, .xposz f, .xposx f, .xposy f, .xzoom f, .xfocus f] →
      ∃ v : Result, ∀ s : State, exec i s = .next { s with result := v }

/-- The model's choice (log 11), resting on R17 and R138: CHK and the extractors fault on an operand of fewer than 29 bytes. -/
def Obligations.PartsFaultOnShortOperands : Prop :=
  ∀ (f : RawFrame) (s : State) (i : Instr), f.length < 29 →
    i ∈ [.chk f, .xpitch f, .xyaw f, .xroll f, .xposz f, .xposx f, .xposy f, .xzoom f, .xfocus f] →
    exec i s = .fault .readPastFrame

/-! ## The ports -/

/-- R104, R105: the layout of REC, and its status codes. That the whole word is absent after an error is the model's reading of R104
and R214 (log 16, DEDUCED). -/
def Obligations.RecordWordLayout : Prop :=
  (∀ r : FreeDFrame, ∃ w, (DecodeResult.ok r).word = some w
    ∧ w.extractLsb' 200 2 = 0b00#2 ∧ w.extractLsb' 176 24 = r.pitch.s ∧ w.extractLsb' 152 24 = r.yaw.s
    ∧ w.extractLsb' 128 24 = r.roll.s ∧ w.extractLsb' 104 24 = r.posz.s ∧ w.extractLsb' 80 24 = r.posx.s
    ∧ w.extractLsb' 56 24 = r.posy.s ∧ w.extractLsb' 32 24 = r.zoom ∧ w.extractLsb' 8 24 = r.focus
    ∧ w.extractLsb' 0 8 = r.checksum)
  ∧ (∀ e : DecodeError, (DecodeResult.err e).word = none)
  ∧ (∀ r : FreeDFrame, (DecodeResult.ok r).status = 0b00#2)
  ∧ (DecodeResult.err .tooShort).status = 0b01#2
  ∧ (DecodeResult.err .checksumMismatch).status = 0b10#2
  ∧ ∀ d : DecodeResult, d.status ≠ 0b11#2

/-- R200: the outputs of each event and their order: decode result, overflow notification, released frame; and no output feeds
back into a later operation. -/
def Obligations.OutputsComeInOrder : Prop :=
  (∀ (i : Instr) (s : State) (v : Result), exec i { s with result := v } = exec i s)
  ∧ ∀ (s t : State) (now : Timestamp) (f : RawFrame) (cfg : Configuration),
    (exec (.rx now f) s = .next t ∨ exec (.rxtick now f) s = .next t →
      ∃ d o r, t.result = .relay d o r
        ∧ exec (.dec f) s = .next { s with result := .decode d }
        ∧ (∃ u, exec (.enq f) s = .next u ∧ u.result = .enqueue o)
        ∧ t.result.outputs = [.decoded d.status d.word]
            ++ (match o with | .noDrop => [] | .dropped k _ => [.overflow k.code])
            ++ (match r with | none => [] | some g => [.released (frameBeats g)]))
    ∧ (exec (.tick now) s = .next t →
        t.result.outputs = (match t.result.released with | none => [] | some g => [.released (frameBeats g)]))
    ∧ (exec .idle s = .next t ∨ exec (.reset cfg) s = .next t → t.result.outputs = [])

/-- R106, R107: the beats of a frame are valid, `last` stands on the final one only, `null` only on the one beat of the
zero-length frame, a frame of n >= 1 bytes takes n beats with byte 0 first, and the receiver reads the same frame back. -/
def Obligations.FrameBeatsCarryTheFrame : Prop :=
  ∀ f : RawFrame,
    readBeats (frameBeats f) = .ok f
    ∧ (∀ b ∈ frameBeats f, b.valid = true ∧ b.null = f.isEmpty)
    ∧ (f ≠ [] → (frameBeats f).map (fun b => b.data) = f)
    ∧ (frameBeats f).map (fun b => b.last) = List.replicate (f.length - 1) false ++ [true]

/-- R36, R41: the status outputs are COUNT, WARM, EMPTY and FULL; with QUEUE_CAP = INFINITE FULL is never 1. -/
def Obligations.StatusShowsTheQueue : Prop :=
  ∀ s : State,
    s.status.qCount = s.queue.length ∧ s.status.qWarm = s.warm
    ∧ (s.status.qEmpty = true ↔ s.queue = [])
    ∧ (s.status.qFull = true ↔ s.cfg.queueCap = .finite s.queue.length)
    ∧ (s.cfg.queueCap = .infinite → s.status.qFull = false)

/-! ## Encoding and the step -/

/-- Every well-formed operation is read back from its encoded sample, by its own row of the table; an event is also what the
event decoder reads. The model's choices: with ARRIVAL held, the event decoder gives TICK and RXTICK for the codes that R102 calls
IDLE and RX there (log 7); and a part or a contract, whose words the table shares with other rows, is read back by a row handed to
decodeRow (log 8, log 9). -/
def Obligations.EncodedOperationsDecodeToThemselves : Prop :=
  ∀ (held : Configuration) (i : Instr), i.wf = true →
    decodeRow i.row .external (encode held i) = some i
    ∧ (i.row ∈ [.idle, .rx, .tick, .rxtick, .reset] → decode (encode held i) = .ok i)

/-- R102: `rst` selects RESET and overrides EVT; otherwise what each of the four event codes does, in both TICK_SOURCE modes. -/
def Obligations.EventCodesSelectTheOperation : Prop :=
  (∀ p : PortSample, p.rst = true → decode p = .ok (.reset p.cfg))
  ∧ ∀ (p : PortSample) (fr : Option RawFrame) (s : State), p.rst = false → p.frame = .ok fr →
    ∃ j, decode p = .ok j
      ∧ (p.evt = 0b00#2 → j = .idle)
      ∧ (p.evt = 0b01#2 → ∃ f, fr = some f ∧ j = .rx p.now f)
      ∧ (p.evt = 0b10#2 → (s.cfg.tickSource = .external → j = .tick p.now)
          ∧ (s.cfg.tickSource = .arrival → exec j s = exec .idle s))
      ∧ (p.evt = 0b11#2 → ∃ f, fr = some f ∧ (s.cfg.tickSource = .external → j = .rxtick p.now f)
          ∧ (s.cfg.tickSource = .arrival → exec j s = exec (.rx p.now f) s))

/-- Sanity: samples written out from R102, R106 and R109 decode to the operations they stand for. The samples hold the default
TICK_SOURCE = ARRIVAL, where R102 selects IDLE and RX for the codes 10 and 11: that those two decode to TICK and RXTICK is the
model's choice (log 7). -/
def Obligations.WrittenSamplesDecode : Prop :=
  decode { rst := false, tick := false, inbound := [], now := 7, cfg := Configuration.default } = .ok .idle
  ∧ decode { rst := false, tick := true, inbound := [], now := 7, cfg := Configuration.default } = .ok (.tick 7)
  ∧ decode { rst := false, tick := false, inbound := [⟨true, 0xD1, false, false⟩, ⟨true, 0x07, true, false⟩], now := 7,
             cfg := Configuration.default } = .ok (.rx 7 [0xD1, 0x07])
  ∧ decode { rst := false, tick := true, inbound := [⟨true, 0x55, true, true⟩], now := 7,
             cfg := Configuration.default } = .ok (.rxtick 7 [])
  ∧ decode { rst := true, tick := true, inbound := [⟨true, 0xD1, true, false⟩], now := 7,
             cfg := Configuration.default } = .ok (.reset Configuration.default)

/-- A step takes the next port sample and runs the operation it decodes to; with nothing presented it is IDLE (log 2). -/
def Obligations.StepRunsTheDecodedEvent : Prop :=
  (∀ (s : State) (p : PortSample) (rest : List PortSample) (i : Instr),
    s.inputs = p :: rest → decode p = .ok i → (p.rst = true ∨ p.cfg = s.cfg) →
    step s = exec i { s with inputs := rest })
  ∧ ∀ s : State, s.inputs = [] → step s = exec .idle s

/-- R112, R160: a step runs one of the five events; the contracts and the parts of DEC are never invoked by the host. -/
def Obligations.OnlyEventsAreInvokedByTheHost : Prop :=
  ∀ s t : State, step s = .next t →
    ∃ i : Instr, i.row ∈ [.idle, .rx, .tick, .rxtick, .reset] ∧ exec i { s with inputs := s.inputs.tail } = .next t

/-- R67, R213: no step faults; in particular DEC never reads past a frame, whatever its length. -/
def Obligations.NoStepFaults : Prop :=
  ∀ (s : State) (r : Fault), step s ≠ .fault r

/-- The host's placing of a table word: the next step runs what the event decoder reads from it (log 4, log 8). -/
def Obligations.PlacedWordRunsNext : Prop :=
  ∀ (s : State) (nbits w : Nat) (i : Instr), decode (tableSample s.cfg nbits w) = .ok i →
    step (s.withFetchWord nbits w) = exec i s

/-- R231: the three host behaviours outside the ports' contract are refused. Beyond R231, the model's choices: beats that break off
before `last` and a misplaced `null` are refused too (log 20), and so is an over-long frame in ENQ (log 12); that the changed
configuration input is noticed at the next event is log 13. -/
def Obligations.BrokenHostDutiesAreRefused : Prop :=
  (∀ (s : State) (p : PortSample) (rest : List PortSample) (e : Reject),
    s.inputs = p :: rest → p.rst = false → p.frame = .error e → step s = .refused (.badInbound e))
  ∧ (∀ b : Beat, ∀ f : RawFrame, readBeats (frameBeats f ++ [b]) = .error .interleavedFrames)
  ∧ (∀ (s : State) (p : PortSample) (rest : List PortSample) (fr : Option RawFrame),
      s.inputs = p :: rest → p.rst = false → p.frame = .ok fr → p.cfg ≠ s.cfg → step s = .refused .configurationChanged)
  ∧ (∀ (s : State) (now : Timestamp) (f : RawFrame), s.cfg.maxFrameLen < f.length →
      exec (.rx now f) s = .refused .frameTooLong ∧ exec (.rxtick now f) s = .refused .frameTooLong
      ∧ exec (.enq f) s = .refused .frameTooLong)

/-! ## The PacingBuffer -/

/-- R161 to R163: below QUEUE_CAP, and always with INFINITE, ENQ appends the frame at the tail; at QUEUE_CAP, DROP_NEWEST discards
the arriving frame and DROP_OLDEST the head. Nothing else changes, and no drop is a release. -/
def Obligations.EnqAppendsOrDropsByPolicy : Prop :=
  ∀ (f : RawFrame) (s : State), f.length ≤ s.cfg.maxFrameLen →
    (s.cfg.queueCap ≠ .finite s.queue.length →
      exec (.enq f) s = .next { s with queue := s.queue ++ [f], result := .enqueue .noDrop })
    ∧ (s.cfg.queueCap = .finite s.queue.length → s.cfg.ovfPolicy = .dropNewest →
      exec (.enq f) s = .next { s with result := .enqueue (.dropped .newest f) })
    ∧ (s.cfg.queueCap = .finite s.queue.length → ∀ d rest, s.cfg.ovfPolicy = .dropOldest → s.queue = d :: rest →
      exec (.enq f) s = .next { s with queue := rest ++ [f], result := .enqueue (.dropped .oldest d) })

/-- R166, R168, R169: TRYREL as the composition of the warm-up gate, the empty test, the rate lock and the release action. -/
def Obligations.TryrelGatesThenReleasesTheHead : Prop :=
  ∀ (now : Timestamp) (s : State),
    (s.warm = false → s.queue.length < s.cfg.framesToBuffer →
      exec (.tryrel now) s = .next { s with result := .release none })
    ∧ (s.warm = true ∨ s.cfg.framesToBuffer ≤ s.queue.length →
        (s.queue = [] → exec (.tryrel now) s = .next { s with warm := true, result := .release none })
        ∧ (s.lastValid = true → ¬ PeriodElapsed s.cfg s.lastSend now →
            exec (.tryrel now) s = .next { s with warm := true, result := .release none })
        ∧ ∀ g rest, s.queue = g :: rest → (s.lastValid = true → PeriodElapsed s.cfg s.lastSend now) →
            exec (.tryrel now) s = .next { s with warm := true, queue := rest, lastSend := now, lastValid := true,
                                                  result := .release (some g) })

/-- R167: the rate test agrees with comparing the elapsed time against PERIOD = ceil(TICK_HZ * RATE_DEN / RATE_NUM). -/
def Obligations.RateTestAgreesWithPeriod : Prop :=
  ∀ (c : Configuration) (last now : Timestamp), 1 ≤ c.rateNum →
    (withinPeriod c last now = true ↔
      now.toNat < last.toNat ∨ now.toNat - last.toNat < (c.tickHz * c.rateDen + c.rateNum - 1) / c.rateNum)

/-- R170: one release check releases at most one frame, the oldest queued. -/
def Obligations.AtMostOneReleasePerCheck : Prop :=
  ∀ (now : Timestamp) (f : RawFrame) (s t : State),
    (exec (.tryrel now) s = .next t ∨ exec (.tick now) s = .next t → s.queue = t.result.released.toList ++ t.queue)
    ∧ (exec (.rx now f) s = .next t ∨ exec (.rxtick now f) s = .next t →
        ∃ u, exec (.enq f) s = .next u ∧ u.queue = t.result.released.toList ++ t.queue)

/-! ## The events -/

/-- R191: IDLE changes nothing and drives no output port, TICK under ARRIVAL is IDLE, and an IDLE before another operation has no
effect on it. -/
def Obligations.IdleHasNoEffect : Prop :=
  ∀ (s : State) (now : Timestamp),
    exec .idle s = .next { s with result := .nothing }
    ∧ (s.cfg.tickSource = .arrival → exec (.tick now) s = .next { s with result := .nothing })
    ∧ (Result.nothing).outputs = []
    ∧ ∀ (i : Instr) (t : State), exec .idle s = .next t → exec i t = exec i s

/-- R192: under ARRIVAL, RX is DEC, then ENQ, then TRYREL, and returns their three results. -/
def Obligations.RxIsOneRelayIteration : Prop :=
  ∀ (now : Timestamp) (f : RawFrame) (s : State), s.cfg.tickSource = .arrival → f.length ≤ s.cfg.maxFrameLen →
    ∃ (d : DecodeResult) (o : EnqResult) (r : Option RawFrame) (u v : State),
      exec (.dec f) s = .next { s with result := .decode d }
      ∧ exec (.enq f) s = .next u ∧ u.result = .enqueue o
      ∧ exec (.tryrel now) u = .next v ∧ v.result = .release r
      ∧ exec (.rx now f) s = .next { v with result := .relay d o r }

/-- R193: under EXTERNAL, RX is DEC then ENQ, with no release check, whatever `now` is. -/
def Obligations.RxUnderExternalMakesNoReleaseCheck : Prop :=
  ∀ (now : Timestamp) (f : RawFrame) (s : State), s.cfg.tickSource = .external → f.length ≤ s.cfg.maxFrameLen →
    ∃ (d : DecodeResult) (o : EnqResult) (u : State),
      exec (.dec f) s = .next { s with result := .decode d }
      ∧ exec (.enq f) s = .next u ∧ u.result = .enqueue o
      ∧ u.warm = s.warm ∧ u.lastSend = s.lastSend ∧ u.lastValid = s.lastValid
      ∧ exec (.rx now f) s = .next { u with result := .relay d o none }

/-- R194: under EXTERNAL, TICK is TRYREL; under ARRIVAL the tick input is ignored. -/
def Obligations.TickIsAReleaseCheck : Prop :=
  ∀ (now : Timestamp) (s : State),
    (s.cfg.tickSource = .external → ∃ t, exec (.tryrel now) s = .next t ∧ exec (.tick now) s = .next t)
    ∧ (s.cfg.tickSource = .arrival → exec (.tick now) s = .next { s with result := .nothing })

/-- R195: RXTICK is DEC, then ENQ, then TRYREL; under ARRIVAL it is RX. -/
def Obligations.RxtickEnqueuesBeforeTheCheck : Prop :=
  ∀ (now : Timestamp) (f : RawFrame) (s : State), f.length ≤ s.cfg.maxFrameLen →
    (∃ (d : DecodeResult) (o : EnqResult) (r : Option RawFrame) (u v : State),
      exec (.dec f) s = .next { s with result := .decode d }
      ∧ exec (.enq f) s = .next u ∧ u.result = .enqueue o
      ∧ exec (.tryrel now) u = .next v ∧ v.result = .release r
      ∧ exec (.rxtick now f) s = .next { v with result := .relay d o r })
    ∧ (s.cfg.tickSource = .arrival → exec (.rxtick now f) s = exec (.rx now f) s)

/-- R196, R13, R246: RESET with a configuration that meets the constraints constructs the block; with one that does not it is
refused; `rst` overrides every other input. That a TS_W other than the 64 of R40 is refused as well is log 14 (DEDUCED). -/
def Obligations.ResetConstructsTheBlock : Prop :=
  (∀ (cfg : Configuration) (s : State), Constraints cfg →
    exec (.reset cfg) s = .next { queue := [], warm := false, lastSend := 0, lastValid := false, cfg := cfg,
                                  inputs := s.inputs, result := .nothing })
  ∧ (∀ (cfg : Configuration) (s : State), ¬ Constraints cfg → exec (.reset cfg) s = .refused .illegalConfiguration)
  ∧ ∀ p : PortSample, p.rst = true → decode p = .ok (.reset p.cfg)

/-- R250: in an RX that finds QUEUE full, ENQ drops a frame although the release check of the same RX then frees a place. -/
def Obligations.FullQueueDropsDespiteARelease : Prop :=
  ∀ (now : Timestamp) (f g : RawFrame) (rest : List RawFrame) (s : State),
    s.cfg.tickSource = .arrival → f.length ≤ s.cfg.maxFrameLen → s.cfg.queueCap = .finite s.queue.length →
    s.queue = g :: rest → s.warm = true → (s.lastValid = true → PeriodElapsed s.cfg s.lastSend now) →
    ∃ d : DecodeResult,
      (s.cfg.ovfPolicy = .dropNewest → exec (.rx now f) s = .next { s with
        queue := rest, lastSend := now, lastValid := true, result := .relay d (.dropped .newest f) (some g) })
      ∧ (s.cfg.ovfPolicy = .dropOldest → ∀ h kept, rest ++ [f] = h :: kept → exec (.rx now f) s = .next { s with
        queue := kept, lastSend := now, lastValid := true, result := .relay d (.dropped .oldest g) (some h) })

/-- R198: in RX and RXTICK the pacing does not depend on the frame's bytes or length, and the decode result depends on nothing
else. -/
def Obligations.DecodeAndRelayAreIndependent : Prop :=
  ∀ (now now' : Timestamp) (f g : RawFrame) (s s' t u : State),
    ((exec (.rx now f) s = .next t ∧ exec (.rx now g) s = .next u)
      ∨ (exec (.rxtick now f) s = .next t ∧ exec (.rxtick now g) s = .next u) → PacingEq t u)
    ∧ ((exec (.rx now f) s = .next t ∧ exec (.rx now' f) s' = .next u)
      ∨ (exec (.rxtick now f) s = .next t ∧ exec (.rxtick now' f) s' = .next u) →
        ∃ d o r o' r', t.result = .relay d o r ∧ u.result = .relay d o' r')

/-! ## Frames and flags over all operations -/

/-- R33, R160: the Decoder's operations and IDLE leave the four state elements, the configuration and the inputs as they are. -/
def Obligations.DecoderOperationsChangeNoState : Prop :=
  ∀ (i : Instr) (s t : State), exec i s = .next t →
    i.row ∈ [.idle, .dec, .chk, .xpitch, .xyaw, .xroll, .xposz, .xposx, .xposy, .xzoom, .xfocus] →
    t = { s with result := t.result }

/-- R161, R62: ENQ leaves WARM, LAST_SEND, LAST_VALID, the configuration and the inputs, and every queued frame but a dropped head
in its place, ahead of the frame it appends. -/
def Obligations.EnqFrame : Prop :=
  ∀ (f : RawFrame) (s t : State), exec (.enq f) s = .next t →
    t.warm = s.warm ∧ t.lastSend = s.lastSend ∧ t.lastValid = s.lastValid ∧ t.cfg = s.cfg ∧ t.inputs = s.inputs
    ∧ ∃ o, t.result = .enqueue o
      ∧ (o = .noDrop → t.queue = s.queue ++ [f])
      ∧ (∀ g, o = .dropped .newest g → g = f ∧ t.queue = s.queue)
      ∧ (∀ g, o = .dropped .oldest g → ∃ kept, s.queue = g :: kept ∧ t.queue = kept ++ [f])

/-- R168, R169: TRYREL and TICK leave the configuration and the inputs, every queued frame but a released head in its place, and
LAST_SEND and LAST_VALID unless they release. -/
def Obligations.ReleaseCheckFrame : Prop :=
  ∀ (now : Timestamp) (s t : State), exec (.tryrel now) s = .next t ∨ exec (.tick now) s = .next t →
    t.cfg = s.cfg ∧ t.inputs = s.inputs
    ∧ (t.result.released = none → t.queue = s.queue ∧ t.lastSend = s.lastSend ∧ t.lastValid = s.lastValid)
    ∧ (∀ g, t.result.released = some g →
        s.queue = g :: t.queue ∧ t.lastSend = now ∧ t.lastValid = true ∧ t.warm = true)

/-- R14: no operation but RESET writes the configuration. That none takes an event still to come is about the model's own field
`inputs` (log 2), and rests on R190. -/
def Obligations.OnlyResetWritesTheConfiguration : Prop :=
  ∀ (i : Instr) (s t : State), exec i s = .next t →
    (i.isReset = false → t.cfg = s.cfg) ∧ t.inputs = s.inputs

/-- R42: WARM and LAST_VALID are cleared by RESET only; WARM is set only by an operation with a release check that saw the
threshold met, LAST_VALID only by a release, and LAST_SEND changes only at a release. -/
def Obligations.LatchesAreSetByReleaseChecksOnly : Prop :=
  ∀ (i : Instr) (s t : State), exec i s = .next t → i.isReset = false →
    (s.warm = true → t.warm = true) ∧ (s.lastValid = true → t.lastValid = true)
    ∧ (s.warm = false → t.warm = true →
        i.row ∈ [.tryrel, .tick, .rx, .rxtick] ∧ s.cfg.framesToBuffer ≤ t.queue.length + t.result.released.toList.length)
    ∧ (s.lastValid = false → t.lastValid = true → t.result.released.isSome = true)
    ∧ (t.lastSend ≠ s.lastSend → t.result.released.isSome = true)

/-! ## Invariants -/

/-- R45: the state after RESET with the defaults of R40. TICK_HZ and QUEUE_CAP are OPEN in the spec: their two values here are the
model's choice (log 5), and `inputs` and `result` are the model's own fields (log 1, log 2). -/
def Obligations.ResetStateHoldsTheDefaults : Prop :=
  State.reset.queue = [] ∧ State.reset.warm = false ∧ State.reset.lastValid = false ∧ State.reset.lastSend = 0
  ∧ State.reset.cfg.framesToBuffer = 8 ∧ State.reset.cfg.rateNum = 24 ∧ State.reset.cfg.rateDen = 1
  ∧ State.reset.cfg.ovfPolicy = .dropNewest ∧ State.reset.cfg.tickSource = .arrival
  ∧ State.reset.cfg.maxFrameLen = 1024 ∧ State.reset.cfg.tsW = 64
  ∧ State.reset.cfg.tickHz = 1000000 ∧ State.reset.cfg.queueCap = .finite 16
  ∧ State.reset.inputs = [] ∧ State.reset.result = .nothing

/-- The state after RESET, with any configuration that meets R13, satisfies both invariants. -/
def Obligations.ResetStateMeetsTheInvariants : Prop :=
  State.reset.Inv ∧ State.reset.ArrivalInv
  ∧ ∀ (cfg : Configuration) (s t : State), exec (.reset cfg) s = .next t → t.Inv ∧ t.ArrivalInv

/-- Every step keeps Inv: a legal configuration, COUNT within QUEUE_CAP, frames within MAX_FRAME_LEN, no release before the
gate opened, LAST_SEND 0 before the first release. -/
def Obligations.StepKeepsTheInvariant : Prop :=
  ∀ s t : State, s.Inv → step s = .next t → t.Inv

/-- Every step keeps, under ARRIVAL, that WARM and LAST_VALID agree and that QUEUE stays below the threshold until they are set. -/
def Obligations.StepKeepsTheArrivalInvariant : Prop :=
  ∀ s t : State, s.Inv → s.ArrivalInv → step s = .next t → t.ArrivalInv

/-! ## Runs -/

/-- R75: over any run, the frames released followed by those still queued are a subsequence, in order, of those queued at the
start followed by those presented. -/
def Obligations.ReleasesAreInArrivalOrder : Prop :=
  ∀ (k : Nat) (s : State),
    (releasedFrames (s.trace k) ++ (s.after k).queue).Sublist (s.queue ++ presentedFrames (s.trace k))

/-- R75, R176: with QUEUE_CAP = INFINITE and no RESET nothing is lost: the released frames followed by those queued are exactly
the frames queued at the start followed by those presented. -/
def Obligations.UnboundedQueueLosesNothing : Prop :=
  ∀ (k : Nat) (s : State), s.cfg.queueCap = .infinite → NoReset (s.trace k) →
    releasedFrames (s.trace k) ++ (s.after k).queue = s.queue ++ presentedFrames (s.trace k)

/-- R174: over any run without RESET, two consecutive releases are at least one period apart, the last one before the run
included. -/
def Obligations.ConsecutiveReleasesAreAPeriodApart : Prop :=
  ∀ (k : Nat) (s : State), NoReset (s.trace k) →
    ((if s.lastValid then [s.lastSend] else []) ++ releaseTimes (s.trace k)).IsChain (PeriodElapsed s.cfg)

/-- R175: from a state whose gate is shut, no run without RESET releases anything until COUNT and the frames presented since
add up to FRAMES_TO_BUFFER. -/
def Obligations.NothingIsReleasedBeforeTheThreshold : Prop :=
  ∀ (k : Nat) (s : State), s.warm = false → NoReset (s.trace k) →
    s.count + (presentedFrames (s.trace k)).length < s.cfg.framesToBuffer → releasedFrames (s.trace k) = []

/-- R241: under ARRIVAL, from the state RESET leaves, the first release is that of the first frame, in the arrival that brings
COUNT to FRAMES_TO_BUFFER (in the first arrival when the threshold is 0), whatever the timestamps. -/
def Obligations.FirstReleaseComesAtTheThreshold : Prop :=
  ∀ (s : State) (es : List (Timestamp × RawFrame)) (rest : List PortSample) (first : Timestamp × RawFrame),
    s.queue = [] → s.warm = false → s.lastValid = false → s.cfg.tickSource = .arrival → Constraints s.cfg →
    (∀ e ∈ es, e.2.length ≤ s.cfg.maxFrameLen) → es.length = max 1 s.cfg.framesToBuffer → es.head? = some first →
    s.inputs = es.map (fun e => encode s.cfg (.rx e.1 e.2)) ++ rest →
    releasedFrames (s.trace (es.length - 1)) = [] ∧ releasedFrames (s.trace es.length) = [first.2]

/-- R199, R247: under ARRIVAL and without RESET, every releasing step is an arrival, there are never more releases than arrivals,
and while no frame arrives the queue and the pacing state stay as they are for ever, ticks or not. -/
def Obligations.ReleasesAreCoupledToArrivals : Prop :=
  ∀ (k : Nat) (s : State), s.cfg.tickSource = .arrival → NoReset (s.trace k) →
    (∀ e ∈ s.trace k, e.2.result.released.isSome = true → e.1.arriving.isSome = true)
    ∧ (releasedFrames (s.trace k)).length ≤ (presentedFrames (s.trace k)).length
    ∧ (presentedFrames (s.trace k) = [] →
        (s.after k).queue = s.queue ∧ (s.after k).warm = s.warm ∧ (s.after k).lastSend = s.lastSend
          ∧ (s.after k).lastValid = s.lastValid ∧ releasedFrames (s.trace k) = [])

/-- R259: under EXTERNAL, once warm and with a frame queued, a series of ticks of which one is a period past LAST_SEND releases
the head. -/
def Obligations.TicksReleaseTheHead : Prop :=
  ∀ (s : State) (ticks : List Timestamp) (rest : List PortSample) (g : RawFrame),
    s.cfg.tickSource = .external → s.warm = true → s.queue.head? = some g →
    s.inputs = ticks.map (fun t => encode s.cfg (.tick t)) ++ rest →
    (∃ t ∈ ticks, s.lastValid = true → PeriodElapsed s.cfg s.lastSend t) →
    (releasedFrames (s.trace ticks.length)).head? = some g

/-- R198 over runs: two runs whose states pace alike, and whose inputs differ only in the bytes and lengths of the frames, pace
alike for as long as both go on. -/
def Obligations.PacingIsBlindToFrameContents : Prop :=
  ∀ (k : Nat) (s t : State), PacingEq s t → List.Forall₂ SameButFrame s.inputs t.inputs →
    (s.trace k).length = k → (t.trace k).length = k → PacingEq (s.after k) (t.after k)

/-- R165, D14: setting WARM in TRYREL gives the same releases as setting it in ENQ when COUNT reaches the threshold, from the
state any RESET leaves and for every sequence of invocations. -/
def Obligations.LatchPlacementCannotBeObserved : Prop :=
  ∀ (s : State) (cfg : Configuration) (ops : List BufferOp), Constraints cfg →
    bufferReleases (s.construct cfg) ops = latchingReleases (s.construct cfg) ops

/-- R195, D22: EXTERNAL with a tick on every arrival behaves as ARRIVAL. -/
def Obligations.TickPerArrivalBehavesAsArrival : Prop :=
  ∀ (k : Nat) (s t : State) (es : List (Timestamp × RawFrame)),
    s.cfg.tickSource = .arrival → t = { s with
      cfg := { s.cfg with tickSource := .external }
      inputs := es.map (fun e => encode { s.cfg with tickSource := .external } (.rxtick e.1 e.2)) } →
    s.inputs = es.map (fun e => encode s.cfg (.rx e.1 e.2)) →
    releasedFrames (s.trace k) = releasedFrames (t.trace k) ∧ (s.after k).queue = (t.after k).queue
      ∧ (s.after k).warm = (t.after k).warm ∧ (s.after k).lastSend = (t.after k).lastSend
      ∧ (s.after k).lastValid = (t.after k).lastValid

/-! ## The configuration inputs -/

/-- R40, R109: the 1-bit codes of CFG5 and CFG6; the inputs carry every configuration and nothing else; a RESET samples them, and
whatever completes otherwise leaves what they were sampled as. -/
def Obligations.ResetSamplesTheConfigurationInputs : Prop :=
  OvfPolicy.code .dropNewest = 0#1 ∧ OvfPolicy.code .dropOldest = 1#1
  ∧ TickSource.code .arrival = 0#1 ∧ TickSource.code .external = 1#1
  ∧ (∀ c : Configuration, c.inputs.read = c) ∧ (∀ x : CfgInputs, x.read.inputs = x)
  ∧ ∀ (s t : State) (p : PortSample) (rest : List PortSample), s.inputs = p :: rest → step s = .next t →
      (p.rst = true → t.cfg.inputs = p.cfgInputs) ∧ (p.rst = false → t.cfg.inputs = s.cfg.inputs)
end

