-- ==== Sys2Proof/Laws/State.lean ====
section
/-! SUPPORT. What each shared update of the state leaves in each field, and that the configuration inputs lose nothing. -/

namespace Sys2Proof

/-! ## The configuration inputs -/

@[simp] theorem OvfPolicy_ofCode_code (p : OvfPolicy) : OvfPolicy.ofCode p.code = p := by cases p <;> rfl
@[simp] theorem TickSource_ofCode_code (t : TickSource) : TickSource.ofCode t.code = t := by cases t <;> rfl

@[simp] theorem OvfPolicy_code_ofCode (b : BitVec 1) : (OvfPolicy.ofCode b).code = b := by
  rcases BitVec.eq_zero_or_eq_one b with rfl | rfl <;> rfl
@[simp] theorem TickSource_code_ofCode (b : BitVec 1) : (TickSource.ofCode b).code = b := by
  rcases BitVec.eq_zero_or_eq_one b with rfl | rfl <;> rfl

/-- Reading the inputs on which a configuration is held gives the configuration back. -/
@[simp] theorem Configuration_read_inputs (c : Configuration) : c.inputs.read = c := by
  simp only [CfgInputs.read, Configuration.inputs, OvfPolicy_ofCode_code, TickSource_ofCode_code]

/-- Every value of the inputs is that of exactly the configuration it is read as. -/
@[simp] theorem CfgInputs_inputs_read (x : CfgInputs) : x.read.inputs = x := by
  simp only [CfgInputs.read, Configuration.inputs, OvfPolicy_code_ofCode, TickSource_code_ofCode]

namespace Machine

/-! ## construct -/

@[simp] theorem construct_queue (s : State) (c : Configuration) : (s.construct c).queue = [] := rfl
@[simp] theorem construct_warm (s : State) (c : Configuration) : (s.construct c).warm = false := rfl
@[simp] theorem construct_lastSend (s : State) (c : Configuration) : (s.construct c).lastSend = 0 := rfl
@[simp] theorem construct_lastValid (s : State) (c : Configuration) : (s.construct c).lastValid = false := rfl
@[simp] theorem construct_cfg (s : State) (c : Configuration) : (s.construct c).cfg = c := rfl
@[simp] theorem construct_inputs (s : State) (c : Configuration) : (s.construct c).inputs = s.inputs := rfl
@[simp] theorem construct_result (s : State) (c : Configuration) : (s.construct c).result = s.result := rfl

/-! ## withFetchWord -/

@[simp] theorem withFetchWord_queue (s : State) (n w : Nat) : (s.withFetchWord n w).queue = s.queue := rfl
@[simp] theorem withFetchWord_warm (s : State) (n w : Nat) : (s.withFetchWord n w).warm = s.warm := rfl
@[simp] theorem withFetchWord_lastSend (s : State) (n w : Nat) : (s.withFetchWord n w).lastSend = s.lastSend := rfl
@[simp] theorem withFetchWord_lastValid (s : State) (n w : Nat) : (s.withFetchWord n w).lastValid = s.lastValid := rfl
@[simp] theorem withFetchWord_cfg (s : State) (n w : Nat) : (s.withFetchWord n w).cfg = s.cfg := rfl
@[simp] theorem withFetchWord_inputs (s : State) (n w : Nat) :
    (s.withFetchWord n w).inputs = tableSample s.cfg n w :: s.inputs := rfl
@[simp] theorem withFetchWord_result (s : State) (n w : Nat) : (s.withFetchWord n w).result = s.result := rfl

/-! ## A new result changes no derived flag -/

@[simp] theorem count_setResult (s : State) (v : Result) : ({ s with result := v } : State).count = s.count := rfl
@[simp] theorem empty_setResult (s : State) (v : Result) : ({ s with result := v } : State).empty = s.empty := rfl
@[simp] theorem full_setResult (s : State) (v : Result) : ({ s with result := v } : State).full = s.full := rfl

end Machine
end Sys2Proof
end

