-- ==== Sys2Proof/Laws/Buffer.lean ====
section
/-! SUPPORT. Everything ENQ and TRYREL can do, said once: their cases, what they leave alone, and that they keep QUEUE
well formed. -/

namespace Sys2Proof
namespace Machine

/-! ## enqueue -/

/-- ENQ appends, or drops the arriving frame, or drops the head and appends; nothing else changes. -/
theorem enqueue_cases (s : State) (f : RawFrame) :
    (s.full = false ∧ s.enqueue f = (.noDrop, { s with queue := s.queue ++ [f] }))
    ∨ (s.full = true ∧ (s.cfg.ovfPolicy = .dropNewest ∨ s.queue = []) ∧ s.enqueue f = (.dropped .newest f, s))
    ∨ (s.full = true ∧ s.cfg.ovfPolicy = .dropOldest ∧ ∃ d rest, s.queue = d :: rest
        ∧ s.enqueue f = (.dropped .oldest d, { s with queue := rest ++ [f] })) := by
  unfold State.enqueue
  cases hfull : s.full with
  | false => left; simp
  | true =>
    right
    cases hpol : s.cfg.ovfPolicy with
    | dropNewest => left; simp [State.overflow, hpol]
    | dropOldest =>
      cases hq : s.queue with
      | nil => left; simp [State.overflow, hpol, hq]
      | cons d rest => right; exact ⟨rfl, rfl, d, rest, rfl, by simp [State.overflow, hpol, hq]⟩

/-- ENQ changes nothing but QUEUE. -/
theorem enqueue_frame (s : State) (f : RawFrame) :
    (s.enqueue f).2 = { s with queue := (s.enqueue f).2.queue } := by
  rcases enqueue_cases s f with ⟨_, h⟩ | ⟨_, _, h⟩ | ⟨_, _, d, rest, _, h⟩ <;> rw [h]

theorem enqueue_warm (s : State) (f : RawFrame) : (s.enqueue f).2.warm = s.warm := by rw [enqueue_frame]
theorem enqueue_lastSend (s : State) (f : RawFrame) : (s.enqueue f).2.lastSend = s.lastSend := by rw [enqueue_frame]
theorem enqueue_lastValid (s : State) (f : RawFrame) : (s.enqueue f).2.lastValid = s.lastValid := by rw [enqueue_frame]
theorem enqueue_cfg (s : State) (f : RawFrame) : (s.enqueue f).2.cfg = s.cfg := by rw [enqueue_frame]
theorem enqueue_inputs (s : State) (f : RawFrame) : (s.enqueue f).2.inputs = s.inputs := by rw [enqueue_frame]
theorem enqueue_result (s : State) (f : RawFrame) : (s.enqueue f).2.result = s.result := by rw [enqueue_frame]

/-- A frame that ENQ queues was queued before or has just arrived. -/
theorem enqueue_mem (s : State) (f g : RawFrame) (h : g ∈ (s.enqueue f).2.queue) : g ∈ s.queue ∨ g = f := by
  rcases enqueue_cases s f with ⟨_, e⟩ | ⟨_, _, e⟩ | ⟨_, _, d, rest, hq, e⟩ <;> rw [e] at h
  · simpa using h
  · exact .inl h
  · rw [hq]
    simp only [List.mem_append, List.mem_singleton] at h
    rcases h with h | h
    · exact .inl (List.mem_cons_of_mem _ h)
    · exact .inr h

/-- ENQ keeps COUNT within QUEUE_CAP (R35). -/
theorem enqueue_holds (s : State) (f : RawFrame) (h : s.cfg.queueCap.holds s.count = true) :
    s.cfg.queueCap.holds (s.enqueue f).2.count = true := by
  rcases enqueue_cases s f with ⟨hfull, e⟩ | ⟨_, _, e⟩ | ⟨_, _, d, rest, hq, e⟩ <;> rw [e]
  · unfold State.full at hfull
    cases hc : s.cfg.queueCap with
    | infinite => rfl
    | finite n =>
      simp only [hc, Capacity.reachedBy, decide_eq_false_iff_not] at hfull
      simp only [hc, Capacity.holds, decide_eq_true_eq] at h ⊢
      simp only [State.count, List.length_append, List.length_singleton] at *
      omega
  · exact h
  · simpa [State.count, hq] using h

/-! ## tryRelease -/

/-- TRYREL holds (the gate's latch aside, nothing changes), or releases the head. -/
theorem tryRelease_cases (s : State) (now : Timestamp) :
    ((s.warmAfterGate = false ∨ s.queue = [] ∨ s.held now = true)
        ∧ s.tryRelease now = (none, { s with warm := s.warmAfterGate }))
    ∨ (s.warmAfterGate = true ∧ s.held now = false ∧ ∃ f rest, s.queue = f :: rest
        ∧ s.tryRelease now = (some f, { s with warm := true, queue := rest, lastSend := now, lastValid := true })) := by
  have hheld : ({ s with warm := s.warmAfterGate } : State).held now = s.held now := rfl
  have hempty : ({ s with warm := s.warmAfterGate } : State).empty = s.empty := rfl
  unfold State.tryRelease
  simp only [hheld, hempty]
  cases hw : s.warmAfterGate with
  | false => left; simp
  | true =>
    cases hq : s.queue with
    | nil => left; simp [State.empty, State.count, hq]
    | cons f rest =>
      cases hh : s.held now with
      | true => left; simp [State.empty, State.count, hq]
      | false => right; exact ⟨rfl, rfl, f, rest, rfl, by simp [State.empty, State.count, State.releaseHead, hq]⟩

/-- TRYREL never changes the configuration or what the host has still to present. -/
theorem tryRelease_frame (s : State) (now : Timestamp) :
    (s.tryRelease now).2.cfg = s.cfg ∧ (s.tryRelease now).2.inputs = s.inputs
      ∧ (s.tryRelease now).2.result = s.result := by
  rcases tryRelease_cases s now with ⟨_, h⟩ | ⟨_, _, f, rest, _, h⟩ <;> rw [h] <;> exact ⟨rfl, rfl, rfl⟩

/-- TRYREL leaves QUEUE as it was, or without its head. -/
theorem tryRelease_queue (s : State) (now : Timestamp) :
    s.queue = (s.tryRelease now).1.toList ++ (s.tryRelease now).2.queue := by
  rcases tryRelease_cases s now with ⟨_, h⟩ | ⟨_, _, f, rest, hq, h⟩ <;> rw [h]
  · rfl
  · simpa using hq

/-- A smaller COUNT is within QUEUE_CAP too. -/
theorem Capacity_holds_mono (c : Capacity) {m n : Nat} (hmn : m ≤ n) (h : c.holds n = true) : c.holds m = true := by
  cases c with
  | infinite => rfl
  | finite k =>
    simp only [Capacity.holds, decide_eq_true_eq] at h ⊢
    omega

/-- TRYREL keeps COUNT within QUEUE_CAP (R35). -/
theorem tryRelease_holds (s : State) (now : Timestamp) (h : s.cfg.queueCap.holds s.count = true) :
    s.cfg.queueCap.holds (s.tryRelease now).2.count = true := by
  refine Capacity_holds_mono _ ?_ h
  unfold State.count
  rw [tryRelease_queue s now, List.length_append]
  omega

end Machine
end Sys2Proof
end

