-- ==== Sys2Proof/Laws/PerInstr.lean ====
section
/-! SUPPORT. Statements made once per operation of the table. TableRow: the sample the encoder writes for an operation fits
the operation's own row of spec/opcode_table.json. -/

namespace Sys2Proof
namespace Laws

/-- The last beat of a frame carries `last`. -/
theorem frameBeats_any_last (f : RawFrame) : (frameBeats f).any (fun b => b.last) = true := by
  induction f with
  | nil => rfl
  | cons b rest ih =>
    cases rest with
    | nil => rfl
    | cons c rest => simp only [frameBeats, List.any_cons, Beat.ofByte, Bool.false_or]; exact ih

/-- Every beat of a frame is valid. -/
theorem frameBeats_filter_valid (f : RawFrame) : (frameBeats f).filter (fun b => b.valid) = frameBeats f := by
  induction f with
  | nil => rfl
  | cons b rest ih =>
    cases rest with
    | nil => rfl
    | cons c rest => simp only [frameBeats, Beat.ofByte, List.filter_cons_of_pos, ih]

namespace TableRow

/-- The encoded sample of `i` fits its row's pattern: `rst` for RESET, and the EVT code for the others. -/
def Statement (i : Instr) : Prop :=
  ∀ held : Configuration,
    (encode held i).rst = i.isReset
      ∧ ∀ pats, i.row.evtPatterns .external = some pats → pats.any (evtFits (encode held i).evt) = true

/-- The EVT code of a sample with a frame on the inbound port has `rx` = 1. -/
theorem evt_of_frame (held : Configuration) (tick : Bool) (now : Timestamp) (f : RawFrame) :
    ({ PortSample.quiet held with tick := tick, inbound := frameBeats f, now := now } : PortSample).evt
      = BitVec.ofBool tick ++ 1#1 := by
  simp [PortSample.evt, PortSample.rx, PortSample.beats, frameBeats_filter_valid, frameBeats_any_last]

theorem idle : Statement .idle :=
  fun _ => ⟨rfl, fun _ h => by
    cases h
    simp [encode, PortSample.quiet, PortSample.evt, PortSample.rx, PortSample.beats, evtFits]⟩
theorem rx (now : Timestamp) (f : RawFrame) : Statement (.rx now f) := by
  intro held
  refine ⟨rfl, fun pats h => ?_⟩
  cases h
  have e := evt_of_frame held false now f
  simp only [encode, PortSample.quiet] at e ⊢
  simp only [e]
  decide
theorem tick (now : Timestamp) : Statement (.tick now) :=
  fun _ => ⟨rfl, fun _ h => by
    cases h
    simp [encode, PortSample.quiet, PortSample.evt, PortSample.rx, PortSample.beats, evtFits]⟩
theorem rxtick (now : Timestamp) (f : RawFrame) : Statement (.rxtick now f) := by
  intro held
  refine ⟨rfl, fun pats h => ?_⟩
  cases h
  have e := evt_of_frame held true now f
  simp only [encode, PortSample.quiet] at e ⊢
  simp only [e]
  decide
theorem reset (cfg : Configuration) : Statement (.reset cfg) := fun _ => ⟨rfl, fun _ h => nomatch h⟩
theorem dec (f : RawFrame) : Statement (.dec f) := fun _ => ⟨rfl, fun _ h => nomatch h⟩
theorem chk (f : RawFrame) : Statement (.chk f) := fun _ => ⟨rfl, fun _ h => nomatch h⟩
theorem xpitch (f : RawFrame) : Statement (.xpitch f) := fun _ => ⟨rfl, fun _ h => nomatch h⟩
theorem xyaw (f : RawFrame) : Statement (.xyaw f) := fun _ => ⟨rfl, fun _ h => nomatch h⟩
theorem xroll (f : RawFrame) : Statement (.xroll f) := fun _ => ⟨rfl, fun _ h => nomatch h⟩
theorem xposz (f : RawFrame) : Statement (.xposz f) := fun _ => ⟨rfl, fun _ h => nomatch h⟩
theorem xposx (f : RawFrame) : Statement (.xposx f) := fun _ => ⟨rfl, fun _ h => nomatch h⟩
theorem xposy (f : RawFrame) : Statement (.xposy f) := fun _ => ⟨rfl, fun _ h => nomatch h⟩
theorem xzoom (f : RawFrame) : Statement (.xzoom f) := fun _ => ⟨rfl, fun _ h => nomatch h⟩
theorem xfocus (f : RawFrame) : Statement (.xfocus f) := fun _ => ⟨rfl, fun _ h => nomatch h⟩
theorem enq (f : RawFrame) : Statement (.enq f) := by
  intro held
  refine ⟨rfl, fun pats h => ?_⟩
  cases h
  have e := evt_of_frame held false 0 f
  simp only [encode, PortSample.quiet] at e ⊢
  simp only [e]
  decide
theorem tryrel (now : Timestamp) : Statement (.tryrel now) :=
  fun _ => ⟨rfl, fun _ h => by
    cases h
    simp [encode, PortSample.quiet, PortSample.evt, PortSample.rx, PortSample.beats, evtFits]⟩

end TableRow
end Laws
end Sys2Proof
end

