-- ==== Sys2Proof/Tests/Slice0.lean ====
section
/-! SUPPORT. The model's own tests, with expected results from spec/95_test_vectors.md and from the encodings of
30_encoding.md, and a witness for every obligation that has hypotheses. -/

namespace Sys2Proof
namespace Tests

open Machine

/-! ## Frames and states of the vectors -/

/-- FRAME A. -/
def frameA : RawFrame :=
  [0xD1, 0x01, 0x01, 0x00, 0x00, 0xFF, 0xFF, 0xFF, 0x80, 0x00, 0x00, 0x7F, 0xFF, 0xFF, 0x00, 0x00, 0x40, 0xFF, 0xFF,
   0xC0, 0x12, 0x34, 0x56, 0xFF, 0xFF, 0xFF, 0xAB, 0xCD, 0x64]

/-- FRAME A5: bit 4 of byte 5 of A flipped. -/
def frameA5 : RawFrame :=
  [0xD1, 0x01, 0x01, 0x00, 0x00, 0xEF, 0xFF, 0xFF, 0x80, 0x00, 0x00, 0x7F, 0xFF, 0xFF, 0x00, 0x00, 0x40, 0xFF, 0xFF,
   0xC0, 0x12, 0x34, 0x56, 0xFF, 0xFF, 0xFF, 0xAB, 0xCD, 0x64]

/-- FRAME AS: the first 28 bytes of A. -/
def frameAS : RawFrame :=
  [0xD1, 0x01, 0x01, 0x00, 0x00, 0xFF, 0xFF, 0xFF, 0x80, 0x00, 0x00, 0x7F, 0xFF, 0xFF, 0x00, 0x00, 0x40, 0xFF, 0xFF,
   0xC0, 0x12, 0x34, 0x56, 0xFF, 0xFF, 0xFF, 0xAB, 0xCD]

/-- FRAME AL: A and 3 bytes more. -/
def frameAL : RawFrame := frameA ++ [0xEE, 0xEE, 0xEE]

/-- What DEC gives for A (V2). -/
def recordA : FreeDFrame :=
  { pitch := ⟨0x010000⟩, yaw := ⟨0xFFFFFF⟩, roll := ⟨0x800000⟩, posz := ⟨0x7FFFFF⟩, posx := ⟨0x000040⟩,
    posy := ⟨0xFFFFC0⟩, zoom := 0x123456, focus := 0xFFFFFF, checksum := 0x64 }

/-- FRAME R. -/
def frameR : RawFrame :=
  [0xD1, 0x07, 0x06, 0x40, 0x00, 0xD3, 0x00, 0x00, 0x00, 0x20, 0x00, 0x01, 0x77, 0x20, 0xFF, 0xC1, 0x70, 0x00, 0x00,
   0x01, 0x00, 0x10, 0x00, 0x00, 0xFF, 0xFF, 0x00, 0x00, 0x58]

/-- The configuration of section 2.6: threshold 8, rate 24/1, TICK_HZ = 24 000. -/
def cfg24k : Configuration := { Configuration.default with tickHz := 24000 }

/-- TICK_SOURCE = EXTERNAL with threshold 3 (V64, P4). -/
def cfgExt : Configuration := { cfg24k with tickSource := .external, framesToBuffer := 3, queueCap := .finite 8 }

/-- QUEUE_CAP = 2 with threshold 2 (V32, V33, P3). -/
def cfgFull (p : OvfPolicy) : Configuration :=
  { cfg24k with framesToBuffer := 2, queueCap := .finite 2, ovfPolicy := p }

/-- A block with a given queue and pacing state; the host presents nothing. -/
def block (c : Configuration) (q : List RawFrame) (warm lastValid : Bool) (lastSend : Timestamp) : State :=
  { queue := q, warm := warm, lastSend := lastSend, lastValid := lastValid, cfg := c, inputs := [], result := .nothing }

/-- The next state, if there is one. -/
def nextOf (o : Host.Outcome State Fault Refusal) : Option State :=
  match o with
  | .next s => some s
  | _ => none

/-- What the operation returned. -/
def resultOf (o : Host.Outcome State Fault Refusal) : Option Result := (nextOf o).map (fun s => s.result)

/-- What a vector's table shows. -/
structure Shown where
  queue : List RawFrame
  warm : Bool
  lastValid : Bool
  lastSend : Timestamp
  result : Result
  deriving DecidableEq, Repr

/-- What a vector's table shows of the next state. -/
def shown (o : Host.Outcome State Fault Refusal) : Option Shown :=
  (nextOf o).map (fun s => ⟨s.queue, s.warm, s.lastValid, s.lastSend, s.result⟩)

/-- The refusal, if there is one. -/
def refusalOf (o : Host.Outcome State Fault Refusal) : Option Refusal :=
  match o with
  | .refused r => some r
  | _ => none

/-- Frames F1, F2, ... as one-byte frames (pacing does not read them). -/
def fs (l : List Byte) : List RawFrame := l.map (fun b => [b])

/-! ## Decoding: one sample or word per constructor, from R91, R102, R106, R109 -/

/-- An event at the ports with the defaults on `cfg_*`. -/
def port (rst tick : Bool) (inbound : List Beat) (now : Timestamp) : PortSample :=
  { rst := rst, tick := tick, inbound := inbound, now := now, cfg := Configuration.default }

theorem test_decode_idle : decode (port false false [] 9) = .ok .idle := by decide
theorem test_decode_tick : decode (port false true [] 9) = .ok (.tick 9) := by decide
/-- A beat with `valid` = 0 between two bytes carries nothing. -/
theorem test_decode_rx :
    decode (port false false [⟨true, 0xD1, false, false⟩, ⟨false, 0xEE, true, true⟩, ⟨true, 0x07, true, false⟩] 9)
      = .ok (.rx 9 [0xD1, 0x07]) := by decide
/-- The data of the null beat is ignored. -/
theorem test_decode_rxtick : decode (port false true [⟨true, 0x77, true, true⟩] 9) = .ok (.rxtick 9 []) := by decide
theorem test_decode_reset :
    decode (port true true [⟨true, 0xD1, false, false⟩] 9) = .ok (.reset Configuration.default) := by decide

/-- FRAME A as the 232-bit word of R91. -/
def wordA : Nat := 0xD101010000FFFFFF8000007FFFFF000040FFFFC0123456FFFFFFABCD64

theorem test_word_idle : decodeTableWord 8 0b00 = some .idle := by decide
theorem test_word_rx : decodeTableWord 8 0b01 = some (.rx 0 []) := by decide
theorem test_word_tick : decodeTableWord 8 0b10 = some (.tick 0) := by decide
theorem test_word_rxtick : decodeTableWord 8 0b11 = some (.rxtick 0 []) := by decide
theorem test_word_frame : decodeTableWord 232 wordA = some (.rx 0 frameA) := by decide +kernel

/-- The sample that carries FRAME A's word. -/
def sampleA : PortSample := tableSample Configuration.default 232 wordA

theorem test_row_dec : decodeRow .dec .external sampleA = some (.dec frameA) := by decide +kernel
theorem test_row_chk : decodeRow .chk .external sampleA = some (.chk frameA) := by decide +kernel
theorem test_row_xpitch : decodeRow .xpitch .external sampleA = some (.xpitch frameA) := by decide +kernel
theorem test_row_xyaw : decodeRow .xyaw .external sampleA = some (.xyaw frameA) := by decide +kernel
theorem test_row_xroll : decodeRow .xroll .external sampleA = some (.xroll frameA) := by decide +kernel
theorem test_row_xposz : decodeRow .xposz .external sampleA = some (.xposz frameA) := by decide +kernel
theorem test_row_xposx : decodeRow .xposx .external sampleA = some (.xposx frameA) := by decide +kernel
theorem test_row_xposy : decodeRow .xposy .external sampleA = some (.xposy frameA) := by decide +kernel
theorem test_row_xzoom : decodeRow .xzoom .external sampleA = some (.xzoom frameA) := by decide +kernel
theorem test_row_xfocus : decodeRow .xfocus .external sampleA = some (.xfocus frameA) := by decide +kernel
theorem test_row_enq : decodeRow .enq .external sampleA = some (.enq frameA) := by decide +kernel
theorem test_row_tryrel : decodeRow .tryrel .external (port false true [] 9) = some (.tryrel 9)
    ∧ decodeRow .tryrel .arrival (port false false [⟨true, 0xD1, true, false⟩] 9) = some (.tryrel 9)
    ∧ decodeRow .tryrel .external (port false false [⟨true, 0xD1, true, false⟩] 9) = none := by decide

/-- What is no frame is rejected by name (R106, R231). -/
theorem test_decode_rejects :
    decode (port false false [⟨true, 0xD1, false, false⟩] 9) = .error .incompleteFrame
    ∧ decode (port false false [⟨true, 0xD1, true, false⟩, ⟨true, 0xD1, true, false⟩] 9) = .error .interleavedFrames
    ∧ decode (port false false [⟨true, 0xD1, false, false⟩, ⟨true, 0xD1, true, true⟩] 9) = .error .misplacedNull
    ∧ decode (port false false [⟨true, 0xD1, false, true⟩] 9) = .error .misplacedNull := by decide

/-! ## WellFormed: an ill-formed term for each check -/

theorem test_wf_refuses_short_operands :
    [Instr.chk frameAS, .xpitch frameAS, .xyaw frameAS, .xroll frameAS, .xposz frameAS, .xposx frameAS, .xposy frameAS,
      .xzoom frameAS, .xfocus frameAS].map Instr.wf = List.replicate 9 false := by decide
theorem test_wf_admits_29_bytes :
    [Instr.chk frameA, .xpitch frameA, .xyaw frameA, .xroll frameA, .xposz frameA, .xposx frameA, .xposy frameA,
      .xzoom frameA, .xfocus frameA].map Instr.wf = List.replicate 9 true := by decide
theorem test_wf_refuses_rate_num : (Instr.reset { cfg24k with rateNum := 0 }).wf = false := by decide
theorem test_wf_refuses_rate_den : (Instr.reset { cfg24k with rateDen := 0 }).wf = false := by decide
theorem test_wf_refuses_tick_hz : (Instr.reset { cfg24k with tickHz := 0 }).wf = false := by decide
theorem test_wf_refuses_max_frame_len : (Instr.reset { cfg24k with maxFrameLen := 28 }).wf = false := by decide
theorem test_wf_refuses_queue_cap_zero :
    (Instr.reset { cfg24k with framesToBuffer := 0, queueCap := .finite 0 }).wf = false := by decide
theorem test_wf_refuses_threshold_above_cap : (Instr.reset { cfg24k with queueCap := .finite 7 }).wf = false := by decide
theorem test_wf_refuses_ts_w : (Instr.reset { cfg24k with tsW := 32 }).wf = false := by decide
theorem test_wf_admits_defaults : (Instr.reset { cfg24k with queueCap := .infinite }).wf = true := by decide

/-! ## The Decoder -/

/-- V2, V7. -/
theorem test_dec_ok :
    resultOf (exec (.dec frameA) State.reset) = some (.decode (.ok recordA))
    ∧ resultOf (exec (.dec frameAL) State.reset) = some (.decode (.ok recordA)) := by decide +kernel
/-- V5, V8, V9. -/
theorem test_dec_errors :
    resultOf (exec (.dec frameA5) State.reset) = some (.decode (.err .checksumMismatch))
    ∧ resultOf (exec (.dec frameAS) State.reset) = some (.decode (.err .tooShort))
    ∧ resultOf (exec (.dec []) State.reset) = some (.decode (.err .tooShort)) := by decide +kernel
/-- V-C4. -/
theorem test_chk_match : resultOf (exec (.chk frameA) State.reset) = some (.check ⟨0x64, 0x64, true⟩) := by decide +kernel
/-- V-C5. -/
theorem test_chk_mismatch :
    resultOf (exec (.chk frameA5) State.reset) = some (.check ⟨0x74, 0x64, false⟩) := by decide +kernel

/-- V14: 12.5 degrees. -/
theorem test_xpitch : resultOf (exec (.xpitch frameR) State.reset) = some (.rotation ⟨409600#24⟩)
    ∧ Rotation.degrees ⟨409600#24⟩ = 25 / 2 := by decide +kernel
/-- V14: -90 degrees. -/
theorem test_xyaw : resultOf (exec (.xyaw frameR) State.reset) = some (.rotation ⟨0xD30000#24⟩)
    ∧ Rotation.degrees ⟨0xD30000#24⟩ = -90 := by decide +kernel
/-- V2: -256 degrees. -/
theorem test_xroll : resultOf (exec (.xroll frameA) State.reset) = some (.rotation ⟨0x800000#24⟩)
    ∧ Rotation.degrees ⟨0x800000#24⟩ = -256 := by decide +kernel
/-- V14: 1500.5 mm. -/
theorem test_xposz : resultOf (exec (.xposz frameR) State.reset) = some (.position ⟨96032#24⟩)
    ∧ Position.millimetres ⟨96032#24⟩ = 3001 / 2 := by decide +kernel
/-- V14: -250.25 mm. -/
theorem test_xposx : resultOf (exec (.xposx frameR) State.reset) = some (.position ⟨0xFFC170#24⟩)
    ∧ Position.millimetres ⟨0xFFC170#24⟩ = -1001 / 4 := by decide +kernel
/-- V2: -1 mm. -/
theorem test_xposy : resultOf (exec (.xposy frameA) State.reset) = some (.position ⟨0xFFFFC0#24⟩)
    ∧ Position.millimetres ⟨0xFFFFC0#24⟩ = -1 := by decide +kernel
/-- V2, V20. -/
theorem test_xzoom : resultOf (exec (.xzoom frameA) State.reset) = some (.lens 1193046#24)
    ∧ unsigned24 0x800000#24 = 8388608 := by decide +kernel
/-- V14, V21. -/
theorem test_xfocus : resultOf (exec (.xfocus frameR) State.reset) = some (.lens 65535#24)
    ∧ unsigned24 0xFFFFFF#24 = 16777215 := by decide +kernel

/-- The REC encoding of V1 (section 2.3): status 00, pitch 0x010000, zeros, checksum 0x3F. -/
theorem test_rec_word :
    (DecodeResult.ok { pitch := ⟨0x010000⟩, yaw := ⟨0⟩, roll := ⟨0⟩, posz := ⟨0⟩, posx := ⟨0⟩, posy := ⟨0⟩, zoom := 0,
                       focus := 0, checksum := 0x3F }).word = some (BitVec.ofNat 202 (2 ^ 192 + 0x3F)) := by decide +kernel

/-! ## The PacingBuffer -/

/-- V31, V32. -/
theorem test_enq_append_and_drop_newest :
    shown (exec (.enq [4]) (block cfg24k (fs [1, 2, 3]) false false 0))
      = some ⟨fs [1, 2, 3, 4], false, false, 0, .enqueue .noDrop⟩
    ∧ shown (exec (.enq [4]) (block (cfgFull .dropNewest) (fs [2, 3]) true true 5))
      = some ⟨fs [2, 3], true, true, 5, .enqueue (.dropped .newest [4])⟩ := by decide +kernel
/-- V33, V34. -/
theorem test_enq_drop_oldest_and_empty_frame :
    shown (exec (.enq [4]) (block (cfgFull .dropOldest) (fs [2, 3]) true true 5))
      = some ⟨fs [3, 4], true, true, 5, .enqueue (.dropped .oldest [2])⟩
    ∧ shown (exec (.enq []) (block (cfgFull .dropOldest) (fs [2]) true true 5))
      = some ⟨[[2], []], true, true, 5, .enqueue .noDrop⟩ := by decide +kernel

/-- V40, V41, V44, V48, V49: the gate. -/
theorem test_tryrel_gate :
    shown (exec (.tryrel 500) (block cfg24k (fs [1, 2, 3, 4, 5, 6, 7]) false false 0))
      = some ⟨fs [1, 2, 3, 4, 5, 6, 7], false, false, 0, .release none⟩
    ∧ shown (exec (.tryrel 700) (block cfg24k (fs [1, 2, 3, 4, 5, 6, 7, 8]) false false 0))
      = some ⟨fs [2, 3, 4, 5, 6, 7, 8], true, true, 700, .release (some [1])⟩
    ∧ shown (exec (.tryrel 9999) (block cfg24k (fs [1]) true true 1700)) = some ⟨[], true, true, 9999, .release (some [1])⟩
    ∧ shown (exec (.tryrel 600) (block cfg24k (fs [1, 2, 3, 4, 5, 6, 7, 8, 9]) false true 100))
      = some ⟨fs [1, 2, 3, 4, 5, 6, 7, 8, 9], true, true, 100, .release none⟩
    ∧ shown (exec (.tryrel 5) (block { cfg24k with framesToBuffer := 0 } [] false false 0))
      = some ⟨[], true, false, 0, .release none⟩ := by decide +kernel
/-- V42, V43, V47, V52, V53: the rate lock. -/
theorem test_tryrel_rate_lock :
    shown (exec (.tryrel 1699) (block cfg24k (fs [2, 3]) true true 700))
      = some ⟨fs [2, 3], true, true, 700, .release none⟩
    ∧ shown (exec (.tryrel 1700) (block cfg24k (fs [2, 3]) true true 700))
      = some ⟨fs [3], true, true, 1700, .release (some [2])⟩
    ∧ shown (exec (.tryrel 4000) (block cfg24k (fs [2, 3]) true true 5000))
      = some ⟨fs [2, 3], true, true, 5000, .release none⟩
    ∧ shown (exec (.tryrel 41708)
        (block { Configuration.default with rateNum := 24000, rateDen := 1001 } (fs [1]) true true 0))
      = some ⟨fs [1], true, true, 0, .release none⟩
    ∧ shown (exec (.tryrel 41709)
        (block { Configuration.default with rateNum := 24000, rateDen := 1001 } (fs [1]) true true 0))
      = some ⟨[], true, true, 41709, .release (some [1])⟩ := by decide +kernel

/-! ## The events, run by one step -/

/-- V60. -/
theorem test_idle :
    nextOf (step (block cfg24k (fs [1, 2, 3, 4, 5, 6, 7]) false false 0))
      = some (block cfg24k (fs [1, 2, 3, 4, 5, 6, 7]) false false 0) := by decide +kernel
/-- V61, V67, V63: the first release; a frame that fails decoding is relayed; under EXTERNAL there is no release check. -/
theorem test_rx :
    shown (step { block cfg24k (fs [1, 2, 3, 4, 5, 6, 7]) false false 0 with
        inputs := [encode cfg24k (.rx 700 [8])] })
      = some ⟨fs [2, 3, 4, 5, 6, 7, 8], true, true, 700, .relay (.err .tooShort) .noDrop (some [1])⟩
    ∧ shown (exec (.rx 5000 frameAS) (block cfg24k [] true true 0))
      = some ⟨[], true, true, 5000, .relay (.err .tooShort) .noDrop (some frameAS)⟩
    ∧ shown (exec (.rx 600 [3]) (block cfgExt (fs [1, 2]) false false 0))
      = some ⟨fs [1, 2, 3], false, false, 0, .relay (.err .tooShort) .noDrop none⟩ := by decide +kernel
/-- V64 and V62. -/
theorem test_tick :
    shown (exec (.tick 1000) (block cfgExt (fs [1, 2, 3]) false false 0))
      = some ⟨fs [2, 3], true, true, 1000, .release (some [1])⟩
    ∧ nextOf (exec (.tick 1000) (block cfg24k (fs [1, 2, 3]) true true 0))
      = some (block cfg24k (fs [1, 2, 3]) true true 0) := by decide +kernel
/-- V65. -/
theorem test_rxtick :
    shown (exec (.rxtick 5001 [4]) (block cfgExt [] true true 3000))
      = some ⟨[], true, true, 5001, .relay (.err .tooShort) .noDrop (some [4])⟩ := by decide +kernel
/-- The codes of CFG5 and CFG6 in the table of R40, on the inputs and back. -/
theorem test_cfg_codes :
    (cfgExt.inputs.ovfPolicy, cfgExt.inputs.tickSource) = (0#1, 1#1)
    ∧ ({ cfg24k.inputs with ovfPolicy := 1#1 } : CfgInputs).read = { cfg24k with ovfPolicy := .dropOldest } := by decide
/-- V66, and a configuration that R13 forbids. -/
theorem test_reset :
    nextOf (exec (.reset cfgExt) (block cfg24k (fs [4, 5]) true true 2700)) = some (block cfgExt [] false false 0)
    ∧ refusalOf (exec (.reset { cfg24k with rateNum := 0 }) (block cfg24k (fs [4, 5]) true true 2700))
      = some .illegalConfiguration := by decide +kernel
/-- A table word placed after reset is the event that runs. -/
theorem test_step_runs_placed_word :
    shown (step (State.reset.withFetchWord 232 wordA))
      = some ⟨[frameA], false, false, 0, .relay (.ok recordA) .noDrop none⟩ := by decide +kernel
/-- P3's last line under each policy: the frame is dropped although the check of the same RX frees a place (R250). -/
theorem test_rx_drops_at_full_queue :
    shown (exec (.rx 1010 [6]) (block (cfgFull .dropNewest) (fs [2, 3]) true true 10))
      = some ⟨fs [3], true, true, 1010, .relay (.err .tooShort) (.dropped .newest [6]) (some [2])⟩
    ∧ shown (exec (.rx 1010 [6]) (block (cfgFull .dropOldest) (fs [4, 5]) true true 10))
      = some ⟨fs [6], true, true, 1010, .relay (.err .tooShort) (.dropped .oldest [4]) (some [5])⟩ := by decide +kernel

/-! ## Witnesses: for every obligation with hypotheses, a state and operands that meet them -/

/-- A block with events still to come. -/
def running (c : Configuration) (q : List RawFrame) (warm lastValid : Bool) (lastSend : Timestamp) (evs : List Instr) :
    State :=
  { block c q warm lastValid lastSend with inputs := evs.map (encode c) }

theorem checksum_holds_A : ChecksumHolds frameA := ⟨0x64, by decide, by decide⟩

theorem checksum_fails_A5 : ¬ ChecksumHolds frameA5 := by
  rintro ⟨c, hc, h⟩
  obtain rfl : c = 0x64#8 := by simpa [frameA5] using hc.symm
  revert h
  decide

/-- DecClassifiesEveryFrame: 28 bytes; 29 bytes with a wrong and with a right checksum. -/
theorem witness_DecClassifiesEveryFrame :
    frameAS.length = 28 ∧ (29 ≤ frameA5.length ∧ ¬ ChecksumHolds frameA5) ∧ (29 ≤ frameA.length ∧ ChecksumHolds frameA) :=
  ⟨by decide, ⟨by decide, checksum_fails_A5⟩, by decide, checksum_holds_A⟩

theorem witness_ChkComparesComputedWithStored : 29 ≤ frameA.length := by decide
theorem witness_RotationExtractorsReadTheirFields : 29 ≤ frameA.length := by decide
theorem witness_PositionExtractorsReadTheirFields : 29 ≤ frameA.length := by decide
theorem witness_LensExtractorsReadUnsigned : 29 ≤ frameA.length := by decide
theorem witness_ChecksumIsAnAccumulator : 29 ≤ frameA.length := by decide

/-- Byte 0 and byte 28, the first and the last bit. -/
theorem witness_EverySingleBitFlipIsDetected :
    exec (.dec frameA) State.reset = .next { State.reset with result := .decode (.ok recordA) }
    ∧ (0 < 29 ∧ 0 < 8 ∧ frameA[0]? = some 0xD1#8) ∧ (28 < 29 ∧ 7 < 8 ∧ frameA[28]? = some 0x64#8) :=
  ⟨rfl, by decide, by decide⟩

theorem witness_ExchangedBytesGoUndetected :
    exec (.dec frameA) State.reset = .next { State.reset with result := .decode (.ok recordA) }
    ∧ 0 < 29 ∧ 28 < 29 ∧ frameA[0]? = some 0xD1#8 ∧ frameA[28]? = some 0x64#8 := ⟨rfl, by decide⟩

/-- 30 bytes. -/
theorem witness_LongFramesDecodeByTheirFirst29Bytes : 29 < (frameA ++ [0xEE]).length := by decide
theorem witness_EveryPayloadHasOneChecksumByte : frameAS.length = 28 := by decide
theorem witness_DecoderIsPure : 29 ≤ frameA.length ∧ Instr.xfocus frameA ∈
    [Instr.chk frameA, .xpitch frameA, .xyaw frameA, .xroll frameA, .xposz frameA, .xposx frameA, .xposy frameA,
      .xzoom frameA, .xfocus frameA] := by decide
theorem witness_PartsFaultOnShortOperands : frameAS.length < 29 ∧ Instr.chk frameAS ∈
    [Instr.chk frameAS, .xpitch frameAS, .xyaw frameAS, .xroll frameAS, .xposz frameAS, .xposx frameAS, .xposy frameAS,
      .xzoom frameAS, .xfocus frameAS] := by decide

/-- Each event has a next state. -/
theorem witness_OutputsComeInOrder :
    (∃ t, exec (.rx 5 frameA) State.reset = .next t) ∧ (∃ t, exec (.rxtick 5 frameA) State.reset = .next t)
    ∧ (∃ t, exec (.tick 5) State.reset = .next t) ∧ (∃ t, exec .idle State.reset = .next t)
    ∧ ∃ t, exec (.reset cfgExt) State.reset = .next t := ⟨⟨_, rfl⟩, ⟨_, rfl⟩, ⟨_, rfl⟩, ⟨_, rfl⟩, ⟨_, rfl⟩⟩

theorem witness_FrameBeatsCarryTheFrame : frameA ≠ [] := by decide
theorem witness_StatusShowsTheQueue : (block { cfg24k with queueCap := .infinite } [] true false 0).cfg.queueCap = .infinite := rfl

/-- One operation per row, the parts of DEC on 29 bytes. -/
theorem witness_EncodedOperationsDecodeToThemselves :
    [Instr.idle, .rx 1 frameA, .tick 1, .rxtick 1 [], .reset cfgExt, .dec [], .chk frameA, .xpitch frameA, .xyaw frameA,
      .xroll frameA, .xposz frameA, .xposx frameA, .xposy frameA, .xzoom frameA, .xfocus frameA, .enq [], .tryrel 1].map
        Instr.wf = List.replicate 17 true := by decide

/-- `rst`, one sample per event code, and a state of each TICK_SOURCE. -/
theorem witness_EventCodesSelectTheOperation :
    (port true true [] 9).rst = true ∧ ((port false false [] 9).frame = .ok none ∧ (port false false [] 9).evt = 0b00#2)
    ∧ ((port false false [⟨true, 1, true, false⟩] 9).frame = .ok (some [1])
        ∧ (port false false [⟨true, 1, true, false⟩] 9).evt = 0b01#2)
    ∧ ((port false true [] 9).frame = .ok none ∧ (port false true [] 9).evt = 0b10#2)
    ∧ ((port false true [⟨true, 1, true, false⟩] 9).frame = .ok (some [1])
        ∧ (port false true [⟨true, 1, true, false⟩] 9).evt = 0b11#2)
    ∧ (block cfgExt [] false false 0).cfg.tickSource = .external ∧ State.reset.cfg.tickSource = .arrival :=
  ⟨rfl, by decide, by decide, by decide, by decide, rfl, rfl⟩

theorem witness_StepRunsTheDecodedEvent :
    (∃ s : State, ∃ p rest, s.inputs = p :: rest ∧ decode p = .ok .idle ∧ p.cfg = s.cfg)
    ∧ (∃ s : State, ∃ p rest, s.inputs = p :: rest ∧ decode p = .ok (.reset cfgExt) ∧ p.rst = true ∧ p.cfg ≠ s.cfg)
    ∧ State.reset.inputs = [] :=
  ⟨⟨running cfg24k [] false false 0 [.idle], _, _, rfl, rfl, rfl⟩,
   ⟨running cfg24k [] false false 0 [.reset cfgExt], _, _, rfl, rfl, rfl, by decide⟩, rfl⟩

theorem witness_OnlyEventsAreInvokedByTheHost : ∃ t, step (running cfg24k [] false false 0 [.rx 5 frameA]) = .next t :=
  ⟨_, rfl⟩

theorem witness_PlacedWordRunsNext : decode (tableSample State.reset.cfg 8 2) = .ok (.tick 0) := rfl

/-- A broken frame, a changed configuration input, a frame of MAX_FRAME_LEN + 1 bytes. -/
theorem witness_BrokenHostDutiesAreRefused :
    (∃ s : State, ∃ p rest, s.inputs = p :: rest ∧ p.rst = false ∧ p.frame = .error .incompleteFrame)
    ∧ (∃ s : State, ∃ p rest, s.inputs = p :: rest ∧ p.rst = false ∧ p.frame = .ok none ∧ p.cfg ≠ s.cfg)
    ∧ (block { cfg24k with maxFrameLen := 29 } [] false false 0).cfg.maxFrameLen < (frameA ++ [0xEE]).length :=
  ⟨⟨{ State.reset with inputs := [port false false [⟨true, 1, false, false⟩] 9] }, _, _, rfl, rfl, rfl⟩,
   ⟨{ State.reset with inputs := [encode cfgExt .idle] }, _, _, rfl, rfl, rfl, by decide⟩, by decide⟩

/-- A frame of exactly MAX_FRAME_LEN bytes; COUNT one below QUEUE_CAP; INFINITE; QUEUE_CAP reached under each policy. -/
theorem witness_EnqAppendsOrDropsByPolicy :
    frameA.length ≤ ({ cfgFull .dropNewest with maxFrameLen := 29 } : Configuration).maxFrameLen
    ∧ (cfgFull .dropNewest).queueCap ≠ .finite (fs [1]).length
    ∧ ({ cfg24k with queueCap := .infinite } : Configuration).queueCap ≠ .finite (fs [1]).length
    ∧ (cfgFull .dropNewest).queueCap = .finite (fs [2, 3]).length ∧ (cfgFull .dropNewest).ovfPolicy = .dropNewest
    ∧ (cfgFull .dropOldest).queueCap = .finite (fs [2, 3]).length ∧ (cfgFull .dropOldest).ovfPolicy = .dropOldest
    ∧ fs [2, 3] = [2] :: fs [3] := by decide

/-- One below the threshold; at the threshold; empty; within the period by one unit; at the period exactly; the first release. -/
theorem witness_TryrelGatesThenReleasesTheHead :
    (fs [1, 2, 3, 4, 5, 6, 7]).length < cfg24k.framesToBuffer ∧ cfg24k.framesToBuffer ≤ (fs [1, 2, 3, 4, 5, 6, 7, 8]).length
    ∧ (block cfg24k [] true true 700).warm = true ∧ (block cfg24k [] true true 700).queue = []
    ∧ ¬ PeriodElapsed cfg24k 700 1699 ∧ PeriodElapsed cfg24k 700 1700 ∧ ¬ PeriodElapsed cfg24k 700 699
    ∧ (block cfg24k (fs [1]) true false 0).lastValid = false := by decide

theorem witness_RateTestAgreesWithPeriod : 1 ≤ cfg24k.rateNum := by decide

theorem witness_AtMostOneReleasePerCheck :
    (∃ t, exec (.tryrel 700) (block cfg24k (fs [1, 2, 3, 4, 5, 6, 7, 8]) false false 0) = .next t
      ∧ t.result.released = some [1])
    ∧ (∃ t, exec (.tick 700) (block cfgExt (fs [1, 2, 3]) false false 0) = .next t ∧ t.result.released = some [1])
    ∧ (∃ t, exec (.rx 700 [8]) (block cfg24k (fs [1, 2, 3, 4, 5, 6, 7]) false false 0) = .next t
      ∧ t.result.released = some [1])
    ∧ ∃ t, exec (.rxtick 700 [3]) (block cfgExt (fs [1, 2]) false false 0) = .next t ∧ t.result.released = some [1] :=
  ⟨⟨_, rfl, rfl⟩, ⟨_, rfl, rfl⟩, ⟨_, rfl, rfl⟩, ⟨_, rfl, rfl⟩⟩

theorem witness_IdleHasNoEffect :
    State.reset.cfg.tickSource = .arrival ∧ ∃ t, exec .idle (block cfg24k (fs [1]) true true 7) = .next t := ⟨rfl, _, rfl⟩

theorem witness_RxIsOneRelayIteration :
    cfg24k.tickSource = .arrival ∧ frameA.length ≤ ({ cfg24k with maxFrameLen := 29 } : Configuration).maxFrameLen := by
  decide
theorem witness_RxUnderExternalMakesNoReleaseCheck :
    cfgExt.tickSource = .external ∧ frameA.length ≤ ({ cfgExt with maxFrameLen := 29 } : Configuration).maxFrameLen := by
  decide
theorem witness_TickIsAReleaseCheck : cfgExt.tickSource = .external ∧ cfg24k.tickSource = .arrival := by decide
theorem witness_RxtickEnqueuesBeforeTheCheck :
    frameA.length ≤ ({ cfg24k with maxFrameLen := 29 } : Configuration).maxFrameLen ∧ cfg24k.tickSource = .arrival := by
  decide

/-- Every bound of R13 at its least legal value, a configuration that breaks one, and `rst` on a sample. -/
theorem witness_ResetConstructsTheBlock :
    Constraints { framesToBuffer := 1, rateNum := 1, rateDen := 1, tickHz := 1, queueCap := .finite 1,
                  ovfPolicy := .dropOldest, tickSource := .external, maxFrameLen := 29, tsW := 64 }
    ∧ ¬ Constraints { cfg24k with queueCap := .finite 7 } ∧ (port true true [] 9).rst = true :=
  ⟨⟨by decide, by decide, by decide, by decide, fun n h => by cases h; decide, by decide⟩,
   fun h => by have := h.2.2.2.2.1 7 rfl; revert this; decide, rfl⟩

/-- P3's last RX, exactly one period after the last release, under each policy. -/
theorem witness_FullQueueDropsDespiteARelease :
    (cfgFull .dropNewest).tickSource = .arrival ∧ frameA.length ≤ (cfgFull .dropNewest).maxFrameLen
    ∧ (cfgFull .dropNewest).queueCap = .finite (fs [2, 3]).length ∧ fs [2, 3] = [2] :: fs [3]
    ∧ PeriodElapsed (cfgFull .dropNewest) 10 1010 ∧ (cfgFull .dropOldest).ovfPolicy = .dropOldest
    ∧ fs [3] ++ [frameA] = [3] :: [frameA] := by decide

theorem witness_DecodeAndRelayAreIndependent :
    (∃ t u, exec (.rx 5 frameA) State.reset = .next t ∧ exec (.rx 5 []) State.reset = .next u)
    ∧ (∃ t u, exec (.rxtick 5 frameA) State.reset = .next t ∧ exec (.rxtick 5 []) State.reset = .next u)
    ∧ (∃ t u, exec (.rx 5 frameA) State.reset = .next t ∧ exec (.rx 6 frameA) (block cfgExt [] true true 0) = .next u)
    ∧ ∃ t u, exec (.rxtick 5 frameA) State.reset = .next t ∧ exec (.rxtick 6 frameA) (block cfgExt [] true true 0) = .next u :=
  ⟨⟨_, _, rfl, rfl⟩, ⟨_, _, rfl, rfl⟩, ⟨_, _, rfl, rfl⟩, ⟨_, _, rfl, rfl⟩⟩

theorem witness_DecoderOperationsChangeNoState :
    (∃ t, exec (.dec []) State.reset = .next t) ∧ (∃ t, exec (.xzoom frameA) State.reset = .next t)
    ∧ (Instr.dec []).row = .dec ∧ (Instr.xzoom frameA).row = .xzoom := ⟨⟨_, rfl⟩, ⟨_, rfl⟩, rfl, rfl⟩

/-- ENQ with each of its three results. -/
theorem witness_EnqFrame :
    (∃ t, exec (.enq [4]) (block cfg24k (fs [1]) false false 0) = .next t ∧ t.result = .enqueue .noDrop)
    ∧ (∃ t, exec (.enq [4]) (block (cfgFull .dropNewest) (fs [2, 3]) true true 5) = .next t
      ∧ t.result = .enqueue (.dropped .newest [4]))
    ∧ ∃ t, exec (.enq [4]) (block (cfgFull .dropOldest) (fs [2, 3]) true true 5) = .next t
      ∧ t.result = .enqueue (.dropped .oldest [2]) := ⟨⟨_, rfl, rfl⟩, ⟨_, rfl, rfl⟩, ⟨_, rfl, rfl⟩⟩

/-- TRYREL and TICK, releasing and holding. -/
theorem witness_ReleaseCheckFrame :
    (∃ t, exec (.tryrel 1700) (block cfg24k (fs [2, 3]) true true 700) = .next t ∧ t.result.released = some [2])
    ∧ (∃ t, exec (.tryrel 1699) (block cfg24k (fs [2, 3]) true true 700) = .next t ∧ t.result.released = none)
    ∧ (∃ t, exec (.tick 1700) (block cfgExt (fs [2, 3]) true true 700) = .next t ∧ t.result.released = some [2])
    ∧ ∃ t, exec (.tick 1699) (block cfgExt (fs [2, 3]) true true 700) = .next t ∧ t.result.released = none :=
  ⟨⟨_, rfl, rfl⟩, ⟨_, rfl, rfl⟩, ⟨_, rfl, rfl⟩, ⟨_, rfl, rfl⟩⟩

theorem witness_OnlyResetWritesTheConfiguration :
    ∃ t, exec (.rx 5 frameA) State.reset = .next t ∧ (Instr.rx 5 frameA).isReset = false := ⟨_, rfl, rfl⟩

/-- A check that sets WARM, and a release that sets LAST_VALID and changes LAST_SEND; and a check with both set before. -/
theorem witness_LatchesAreSetByReleaseChecksOnly :
    (∃ t, exec (.tryrel 700) (block cfg24k (fs [1, 2, 3, 4, 5, 6, 7, 8]) false false 0) = .next t
      ∧ t.warm = true ∧ t.lastValid = true ∧ t.lastSend = 700 ∧ (Instr.tryrel 700).isReset = false)
    ∧ ∃ t, exec (.tryrel 700) (block cfg24k [] true true 0) = .next t := ⟨⟨_, rfl, rfl, rfl, rfl, rfl⟩, _, rfl⟩

theorem witness_ResetStateMeetsTheInvariants : ∃ t, exec (.reset cfgExt) State.reset = .next t := ⟨_, rfl⟩

/-- The block of V61 before its RX. -/
theorem witness_StepKeepsTheInvariant :
    (running cfg24k (fs [1, 2, 3, 4, 5, 6, 7]) false false 0 [.rx 700 [8]]).Inv
    ∧ ∃ t, step (running cfg24k (fs [1, 2, 3, 4, 5, 6, 7]) false false 0 [.rx 700 [8]]) = .next t := ⟨by decide, _, rfl⟩

theorem witness_StepKeepsTheArrivalInvariant :
    (running cfg24k (fs [1, 2, 3, 4, 5, 6, 7]) false false 0 [.rx 700 [8]]).Inv
    ∧ (running cfg24k (fs [1, 2, 3, 4, 5, 6, 7]) false false 0 [.rx 700 [8]]).ArrivalInv
    ∧ ∃ t, step (running cfg24k (fs [1, 2, 3, 4, 5, 6, 7]) false false 0 [.rx 700 [8]]) = .next t :=
  ⟨by decide, by decide, _, rfl⟩

/-- The start of P5: QUEUE_CAP as given, threshold 1, microseconds. -/
def startP5 (cap : Capacity) : State :=
  running { Configuration.default with framesToBuffer := 1, queueCap := cap } [] false false 0
    [.rx 0 [1], .rx 41666 [2], .rx 41667 [3]]

theorem witness_UnboundedQueueLosesNothing :
    (startP5 .infinite).cfg.queueCap = .infinite ∧ NoReset ((startP5 .infinite).trace 3)
    ∧ releasedFrames ((startP5 .infinite).trace 3) = fs [1, 2] := by decide +kernel

/-- Two releases, 41 667 units apart (P5). -/
theorem witness_ConsecutiveReleasesAreAPeriodApart :
    NoReset ((startP5 (.finite 4)).trace 3) ∧ releaseTimes ((startP5 (.finite 4)).trace 3) = [0, 41667] := by decide +kernel

/-- COUNT 1 and one frame presented, below threshold 3 by one. -/
theorem witness_NothingIsReleasedBeforeTheThreshold :
    NoReset ((running cfgExt (fs [1]) false false 0 [.rx 1 [2], .tick 500]).trace 2)
    ∧ (running cfgExt (fs [1]) false false 0 [.rx 1 [2], .tick 500]).count
        + (presentedFrames ((running cfgExt (fs [1]) false false 0 [.rx 1 [2], .tick 500]).trace 2)).length = 2
    ∧ (running cfgExt (fs [1]) false false 0 [.rx 1 [2], .tick 500]).warm = false := by decide +kernel

/-- Threshold 2 with two arrivals, and threshold 0 with one. -/
theorem witness_FirstReleaseComesAtTheThreshold :
    (Constraints (cfgFull .dropNewest) ∧ (cfgFull .dropNewest).tickSource = .arrival
      ∧ [((0 : Timestamp), frameA), (10, frameAS)].length = max 1 (cfgFull .dropNewest).framesToBuffer
      ∧ (∀ e ∈ [((0 : Timestamp), frameA), (10, frameAS)], e.2.length ≤ (cfgFull .dropNewest).maxFrameLen)
      ∧ [((0 : Timestamp), frameA), (10, frameAS)].head? = some (0, frameA)
      ∧ (running (cfgFull .dropNewest) [] false false 0 [.rx 0 frameA, .rx 10 frameAS]).inputs
          = [((0 : Timestamp), frameA), (10, frameAS)].map (fun e => encode (cfgFull .dropNewest) (.rx e.1 e.2)) ++ [])
    ∧ [((0 : Timestamp), frameA)].length = max 1 ({ cfg24k with framesToBuffer := 0 } : Configuration).framesToBuffer :=
  ⟨⟨⟨by decide, by decide, by decide, by decide, fun n h => by cases h; decide, by decide⟩, rfl, by decide, by decide, rfl,
    rfl⟩, by decide⟩

/-- P5's start, with releases; P2's end, where seven frames stay while ticks and idles come. -/
theorem witness_ReleasesAreCoupledToArrivals :
    ((startP5 (.finite 4)).cfg.tickSource = .arrival ∧ NoReset ((startP5 (.finite 4)).trace 3)
      ∧ ∃ e ∈ (startP5 (.finite 4)).trace 3, e.2.result.released.isSome = true)
    ∧ (running cfg24k (fs [4, 5, 6, 7, 8, 9, 10]) true true 2700 [.tick 9999, .idle]).cfg.tickSource = .arrival
    ∧ NoReset ((running cfg24k (fs [4, 5, 6, 7, 8, 9, 10]) true true 2700 [.tick 9999, .idle]).trace 2)
    ∧ ((running cfg24k (fs [4, 5, 6, 7, 8, 9, 10]) true true 2700 [.tick 9999, .idle]).trace 2).length = 2
    ∧ presentedFrames ((running cfg24k (fs [4, 5, 6, 7, 8, 9, 10]) true true 2700 [.tick 9999, .idle]).trace 2) = [] := by
  decide +kernel

/-- P4: the tick one period after LAST_SEND, after one that comes too early; and before any release. -/
theorem witness_TicksReleaseTheHead :
    (running cfgExt (fs [2, 3]) true true 1000 [.tick 1999, .tick 2000]).inputs
        = [(1999 : Timestamp), 2000].map (fun t => encode cfgExt (.tick t)) ++ []
    ∧ cfgExt.tickSource = .external ∧ (fs [2, 3]).head? = some [2]
    ∧ (∃ t ∈ [(1999 : Timestamp), 2000], PeriodElapsed cfgExt 1000 t)
    ∧ (block cfgExt (fs [2, 3]) true false 0).lastValid = false := ⟨rfl, rfl, rfl, ⟨2000, by decide, by decide⟩, rfl⟩

/-- Two runs, one presented A and the other an empty frame. -/
theorem witness_PacingIsBlindToFrameContents :
    PacingEq (running cfg24k (fs [1]) true true 0 [.rx 1000 frameA]) (running cfg24k (fs [2]) true true 0 [.rx 1000 []])
    ∧ List.Forall₂ SameButFrame (running cfg24k (fs [1]) true true 0 [.rx 1000 frameA]).inputs
        (running cfg24k (fs [2]) true true 0 [.rx 1000 []]).inputs
    ∧ ((running cfg24k (fs [1]) true true 0 [.rx 1000 frameA]).trace 1).length = 1
    ∧ ((running cfg24k (fs [2]) true true 0 [.rx 1000 []]).trace 1).length = 1 :=
  ⟨by decide, .cons (by decide) .nil, by decide +kernel, by decide +kernel⟩

theorem witness_LatchPlacementCannotBeObserved : Constraints cfg24k :=
  ⟨by decide, by decide, by decide, by decide, fun n h => by cases h; decide, by decide⟩

theorem witness_TickPerArrivalBehavesAsArrival :
    (running cfg24k [] false false 0 [.rx 0 frameA, .rx 5 []]).cfg.tickSource = .arrival
    ∧ (running cfg24k [] false false 0 [.rx 0 frameA, .rx 5 []]).inputs
        = [((0 : Timestamp), frameA), (5, [])].map (fun e => encode cfg24k (.rx e.1 e.2)) := ⟨rfl, rfl⟩

/-- A RESET that changes the configuration, and an event that keeps it. -/
theorem witness_ResetSamplesTheConfigurationInputs :
    (∃ s t, ∃ p rest, s.inputs = p :: rest ∧ step s = .next t ∧ p.rst = true ∧ p.cfgInputs ≠ s.cfg.inputs)
    ∧ ∃ s t, ∃ p rest, s.inputs = p :: rest ∧ step s = .next t ∧ p.rst = false :=
  ⟨⟨running cfg24k [] false false 0 [.reset cfgExt], _, _, _, rfl, rfl, rfl, by decide⟩,
   ⟨running cfg24k [] false false 0 [.rx 0 frameA], _, _, _, rfl, rfl, rfl⟩⟩

end Tests
end Sys2Proof
end

/-! SUPPORT. What an operation that answers a next state has done (`Effect`, `exec_effect`), what a step is made of
(`step_cases`), and the three statements of scope settled from them. -/

namespace Sys2Proof

/-- CHK and the eight extractors on a frame: the operations with a precondition on its length (R121, R129 to R136). -/
abbrev Instr.partsOn (f : RawFrame) : List Instr :=
  [.chk f, .xpitch f, .xyaw f, .xroll f, .xposz f, .xposx f, .xposy f, .xzoom f, .xfocus f]

namespace Machine

/-! ## The parts of DEC -/

/-- CHK and the extractors bring no frame to ENQ; they test the length and then only record a value of the frame, which
releases nothing. -/
theorem exec_part {f : RawFrame} {i : Instr} (hi : i ∈ Instr.partsOn f) :
    i.isReset = false ∧ i.arriving = none ∧ ∃ v : Config.frameLen ≤ f.length → Result, (∀ h, (v h).released = none) ∧
      ∀ s, exec i s = if h : Config.frameLen ≤ f.length then .next { s with result := v h } else .fault .readPastFrame := by
  simp only [List.mem_cons, List.not_mem_nil, or_false] at hi
  rcases hi with rfl | rfl | rfl | rfl | rfl | rfl | rfl | rfl | rfl <;>
    exact ⟨rfl, rfl, _, fun _ => rfl, fun _ => rfl⟩

/-! ## What an operation can do -/

/-- `Effect i s t`: the ways in which an operation `i` takes `s` to a next state `t`, with the guards it passed. -/
inductive Effect : Instr → State → State → Prop
  /-- IDLE, a TICK that ARRIVAL ignores, DEC and its parts: only the result is new. -/
  | quiet {i : Instr} {s : State} {v : Result} (hreset : i.isReset = false) (harr : i.arriving = none)
      (hrel : v.released = none) : Effect i s { s with result := v }
  /-- ENQ (R161). -/
  | enqueued {s : State} {f : RawFrame} (hacc : s.accepts f = true) :
      Effect (.enq f) s { (s.enqueue f).2 with result := .enqueue (s.enqueue f).1 }
  /-- RX under EXTERNAL (R193). -/
  | relayedHeld {s : State} {now : Timestamp} {f : RawFrame} (hacc : s.accepts f = true)
      (hsrc : s.cfg.tickSource = .external) : Effect (.rx now f) s (s.relayHeld f)
  /-- RXTICK, and RX under ARRIVAL (R192, R195). -/
  | relayedChecked {i : Instr} {s : State} {now : Timestamp} {f : RawFrame} (hacc : s.accepts f = true)
      (hi : i = .rxtick now f ∨ i = .rx now f ∧ s.cfg.tickSource = .arrival) : Effect i s (s.relayChecked now f)
  /-- TRYREL, and TICK under EXTERNAL (R169, R194). -/
  | checked {i : Instr} {s : State} {now : Timestamp}
      (hi : i = .tryrel now ∨ i = .tick now ∧ s.cfg.tickSource = .external) :
      Effect i s { (s.tryRelease now).2 with result := .release (s.tryRelease now).1 }
  /-- RESET (R196). -/
  | constructed {s : State} {cfg : Configuration} (hlegal : cfg.legal = true) :
      Effect (.reset cfg) s { s.construct cfg with result := .nothing }

/-- A part of DEC that answers a next state has only recorded a result. -/
theorem effect_of_part {f : RawFrame} {i : Instr} {s t : State} (hi : i ∈ Instr.partsOn f) (h : exec i s = .next t) :
    Effect i s t := by
  obtain ⟨hreset, harr, v, hrel, he⟩ := exec_part hi
  rw [he] at h
  split at h <;> cases h
  exact .quiet hreset harr (hrel _)

/-- Every next state that exec answers is one of the effects. -/
theorem exec_effect {i : Instr} {s t : State} (h : exec i s = .next t) : Effect i s t := by
  cases i with
  | idle | dec f => cases h; exact .quiet rfl rfl rfl
  | chk f | xpitch f | xyaw f | xroll f | xposz f | xposx f | xposy f | xzoom f | xfocus f =>
    exact effect_of_part (f := f) (by simp) h
  | rx now f =>
    simp only [exec, execRx] at h
    split at h
    next hacc =>
      split at h <;> cases h
      next hsrc => exact .relayedChecked hacc (.inr ⟨rfl, hsrc⟩)
      next hsrc => exact .relayedHeld hacc hsrc
    next => cases h
  | tick now =>
    simp only [exec, execTick] at h
    split at h <;> cases h
    next => exact .quiet rfl rfl rfl
    next hsrc => exact .checked (.inr ⟨rfl, hsrc⟩)
  | rxtick now f =>
    simp only [exec, execRxtick] at h
    split at h <;> cases h
    next hacc => exact .relayedChecked hacc (.inl rfl)
  | reset cfg =>
    simp only [exec, execReset] at h
    split at h <;> cases h
    next hlegal => exact .constructed hlegal
  | enq f =>
    simp only [exec, execEnq] at h
    split at h <;> cases h
    next hacc => exact .enqueued hacc
  | tryrel now => cases h; exact .checked (.inl rfl)

/-- The fetch of an event takes the first port sample, if there is one, and changes nothing else. -/
theorem fetch_state {s u : State} {i : Instr} (h : s.fetch = .ok (i, u)) : u = { s with inputs := s.inputs.tail } := by
  unfold State.fetch at h
  cases hin : s.inputs with
  | nil => rw [hin] at h; cases h; rw [List.tail_nil, ← hin]
  | cons p rest =>
    rw [hin] at h
    dsimp only at h
    split at h <;> cases h
    rfl

/-- A step that answers a next state has fetched an operation and run it on the state with its port sample taken. -/
theorem step_cases {s t : State} (h : step s = .next t) :
    ∃ i, s.fetch = .ok (i, { s with inputs := s.inputs.tail })
      ∧ exec i { s with inputs := s.inputs.tail } = .next t := by
  unfold step at h
  split at h
  next => cases h
  next i u hfetch =>
    obtain rfl := fetch_state hfetch
    exact ⟨i, hfetch, h⟩

/-! ## The invariant -/

/-- Inv does not speak of the result. -/
theorem inv_setResult {s : State} (v : Result) (h : s.Inv) : ({ s with result := v } : State).Inv := h

/-- Inv does not speak of what the host has still to present. -/
theorem inv_setInputs {s : State} (ps : List PortSample) (h : s.Inv) : ({ s with inputs := ps } : State).Inv := h

/-- ENQ keeps Inv on a frame within MAX_FRAME_LEN. -/
theorem enqueue_keeps_inv {s : State} {f : RawFrame} (h : s.Inv) (hacc : s.accepts f = true) :
    (s.enqueue f).2.Inv := by
  obtain ⟨hlegal, hcap, hlen, hwarm, hlast⟩ := h
  rw [State.Inv, enqueue_cfg, enqueue_warm, enqueue_lastValid, enqueue_lastSend]
  refine ⟨hlegal, enqueue_holds s f hcap, fun g hg => ?_, hwarm, hlast⟩
  rcases enqueue_mem s f g hg with hq | rfl
  · exact hlen g hq
  · exact of_decide_eq_true hacc

/-- The warm-up gate never clears WARM (R165). -/
theorem warmAfterGate_of_warm {s : State} (h : s.warm = true) : s.warmAfterGate = true := by
  simp [State.warmAfterGate, h]

/-- TRYREL keeps Inv: it releases only with the gate open, and writes LAST_SEND together with LAST_VALID. -/
theorem tryRelease_keeps_inv {s : State} (now : Timestamp) (h : s.Inv) : (s.tryRelease now).2.Inv := by
  obtain ⟨hlegal, hcap, hlen, hwarm, hlast⟩ := h
  have hcap' := tryRelease_holds s now hcap
  rcases tryRelease_cases s now with ⟨_, e⟩ | ⟨_, _, f, rest, hq, e⟩ <;> rw [e] at hcap' ⊢
  · exact ⟨hlegal, hcap', hlen, fun hv => warmAfterGate_of_warm (hwarm hv), hlast⟩
  · exact ⟨hlegal, hcap', fun g hg => hlen g (hq ▸ List.mem_cons_of_mem f hg), fun _ => rfl, fun hv => nomatch hv⟩

/-- An empty queue is within the QUEUE_CAP of every legal configuration. -/
theorem legal_holds_zero {cfg : Configuration} (h : cfg.legal = true) : cfg.queueCap.holds 0 = true := by
  simp only [Configuration.legal, Bool.and_eq_true] at h
  obtain ⟨⟨⟨_, hone⟩, _⟩, _⟩ := h
  exact Capacity_holds_mono _ (Nat.zero_le 1) hone

/-- Construction with a legal configuration establishes Inv, whatever the state before. -/
theorem construct_inv (s : State) {cfg : Configuration} (h : cfg.legal = true) : (s.construct cfg).Inv := by
  simpa [State.Inv, State.count] using And.intro h (legal_holds_zero h)

/-- Every operation keeps Inv. -/
theorem exec_keeps_inv {i : Instr} {s t : State} (hinv : s.Inv) (h : exec i s = .next t) : t.Inv := by
  cases exec_effect h with
  | quiet => exact inv_setResult _ hinv
  | enqueued hacc => exact inv_setResult _ (enqueue_keeps_inv hinv hacc)
  | relayedHeld hacc => exact inv_setResult _ (enqueue_keeps_inv hinv hacc)
  | relayedChecked hacc => exact inv_setResult _ (tryRelease_keeps_inv _ (enqueue_keeps_inv hinv hacc))
  | checked => exact inv_setResult _ (tryRelease_keeps_inv _ hinv)
  | constructed hlegal => exact inv_setResult _ (construct_inv s hlegal)

/-- Settles O46: a step is a fetch, which Inv does not notice, and one operation. -/
theorem stepKeepsTheInvariant : Obligations.StepKeepsTheInvariant := by
  intro s t hinv hstep
  obtain ⟨i, _, hexec⟩ := step_cases hstep
  exact exec_keeps_inv (inv_setInputs _ hinv) hexec

/-! ## The configuration and the inputs -/

/-- No operation takes an event still to come (log 2). -/
theorem exec_inputs {i : Instr} {s t : State} (h : exec i s = .next t) : t.inputs = s.inputs := by
  cases exec_effect h with
  | quiet => rfl
  | enqueued | relayedHeld => exact enqueue_inputs s _
  | relayedChecked => exact (tryRelease_frame _ _).2.1.trans (enqueue_inputs s _)
  | checked => exact (tryRelease_frame s _).2.1
  | constructed => rfl

/-- Every operation but RESET leaves the configuration as it was (R14). -/
theorem exec_cfg {i : Instr} {s t : State} (h : exec i s = .next t) (hi : i.isReset = false) : t.cfg = s.cfg := by
  cases exec_effect h with
  | quiet => rfl
  | enqueued | relayedHeld => exact enqueue_cfg s _
  | relayedChecked => exact (tryRelease_frame _ _).1.trans (enqueue_cfg s _)
  | checked => exact (tryRelease_frame s _).1
  | constructed => cases hi

/-- Settles O42. -/
theorem onlyResetWritesTheConfiguration : Obligations.OnlyResetWritesTheConfiguration :=
  fun _ _ _ h => ⟨exec_cfg h, exec_inputs h⟩

/-! ## Short operands -/

/-- Settles O14: below 29 bytes the length test of CHK and the extractors fails. -/
theorem partsFaultOnShortOperands : Obligations.PartsFaultOnShortOperands := by
  intro f s i hlen hi
  obtain ⟨_, _, v, _, he⟩ := exec_part hi
  rw [he, dif_neg (Nat.not_le_of_lt hlen)]

end Machine
end Sys2Proof

/-! SUPPORT. The state and its latches: what a step with a port sample runs (`step_decodes`), what RESET leaves
(`exec_reset`), what a release check does to WARM, LAST_VALID and LAST_SEND, and the five statements of state settled
from them. -/

namespace Sys2Proof

/-- The event decoder gives RESET exactly for the samples with `rst` set (R109). -/
theorem decode_isReset {p : PortSample} {i : Instr} (h : decode p = .ok i) : i.isReset = p.rst := by
  unfold decode at h
  cases hrst : p.rst with
  | true => rw [hrst] at h; cases h; rfl
  | false =>
    rw [hrst] at h
    dsimp only at h
    split at h
    next => cases h
    next => split at h <;> cases h <;> rfl
    next => split at h <;> cases h <;> rfl

/-- With `rst` set the event decoder reads RESET with the sampled configuration, whatever the other inputs (R109). -/
theorem decode_of_rst {p : PortSample} (h : p.rst = true) : decode p = .ok (.reset p.cfg) := by simp only [decode, h]

namespace Machine

/-! ## A step with a port sample, and RESET -/

/-- A sample that a block reads as an operation decodes to that operation. -/
theorem readSample_decode {c : Configuration} {p : PortSample} {i : Instr} (h : readSample c p = .ok i) :
    decode p = .ok i := by
  unfold readSample at h
  split at h
  next => cases h
  next hdec => split at h <;> cases h; exact hdec

/-- A step that completes with a sample at the ports has run the operation the sample decodes to. -/
theorem step_decodes {s t : State} {p : PortSample} {rest : List PortSample} (hin : s.inputs = p :: rest)
    (h : step s = .next t) : ∃ i, decode p = .ok i ∧ exec i { s with inputs := rest } = .next t := by
  obtain ⟨i, hfetch, hexec⟩ := step_cases h
  rw [hin] at hexec
  refine ⟨i, readSample_decode (c := s.cfg) ?_, hexec⟩
  simp only [State.fetch, hin] at hfetch
  split at hfetch <;> cases hfetch
  next hread => exact hread

/-- A RESET that completes had a legal configuration and has constructed the block with it (R196, R246). -/
theorem exec_reset {cfg : Configuration} {s t : State} (h : exec (.reset cfg) s = .next t) :
    cfg.legal = true ∧ t = { s.construct cfg with result := .nothing } := by
  simp only [exec, execReset] at h
  split at h <;> cases h
  next hlegal => exact ⟨hlegal, rfl⟩

/-- Settles O58: a step with `rst` set runs RESET with the sampled configuration, and one with `rst` clear runs an
operation that leaves the configuration alone. -/
theorem resetSamplesTheConfigurationInputs : Obligations.ResetSamplesTheConfigurationInputs := by
  refine ⟨rfl, rfl, rfl, rfl, Configuration_read_inputs, CfgInputs_inputs_read, fun s t p rest hin hstep => ?_⟩
  obtain ⟨i, hdec, hexec⟩ := step_decodes hin hstep
  constructor
  · intro hrst
    rw [decode_of_rst hrst] at hdec
    cases hdec
    obtain ⟨_, rfl⟩ := exec_reset hexec
    rfl
  · intro hrst
    rw [exec_cfg hexec ((decode_isReset hdec).trans hrst)]

/-! ## The latches -/

/-- A shut gate opens only at the threshold (R165). -/
theorem threshold_of_warmAfterGate {s : State} (hw : s.warm = false) (h : s.warmAfterGate = true) :
    s.cfg.framesToBuffer ≤ s.count := by
  simpa [State.warmAfterGate, hw] using h

/-- TRYREL leaves WARM as the gate leaves it. -/
theorem tryRelease_warm (s : State) (now : Timestamp) : (s.tryRelease now).2.warm = s.warmAfterGate := by
  rcases tryRelease_cases s now with ⟨_, h⟩ | ⟨hw, _, f, rest, _, h⟩ <;> rw [h]
  exact hw.symm

/-- TRYREL sets LAST_VALID at a release, and else leaves it (R168). -/
theorem tryRelease_lastValid (s : State) (now : Timestamp) :
    (s.tryRelease now).2.lastValid = (s.lastValid || (s.tryRelease now).1.isSome) := by
  rcases tryRelease_cases s now with ⟨_, h⟩ | ⟨_, _, f, rest, _, h⟩ <;> rw [h] <;> simp

/-- TRYREL writes `now` to LAST_SEND at a release, and else leaves it (R168). -/
theorem tryRelease_lastSend (s : State) (now : Timestamp) :
    (s.tryRelease now).2.lastSend = if (s.tryRelease now).1.isSome then now else s.lastSend := by
  rcases tryRelease_cases s now with ⟨_, h⟩ | ⟨_, _, f, rest, _, h⟩ <;> rw [h] <;> rfl

/-- COUNT at a release check is what it released and what it left. -/
theorem tryRelease_count (s : State) (now : Timestamp) :
    s.count = (s.tryRelease now).2.queue.length + (s.tryRelease now).1.toList.length := by
  rw [State.count, tryRelease_queue s now, List.length_append, Nat.add_comm]

/-- R42's table for one operation `i` from `s` to `t`. -/
def LatchesMoveBy (i : Instr) (s t : State) : Prop :=
  (s.warm = true → t.warm = true) ∧ (s.lastValid = true → t.lastValid = true)
  ∧ (s.warm = false → t.warm = true →
      i.row ∈ [.tryrel, .tick, .rx, .rxtick] ∧ s.cfg.framesToBuffer ≤ t.queue.length + t.result.released.toList.length)
  ∧ (s.lastValid = false → t.lastValid = true → t.result.released.isSome = true)
  ∧ (t.lastSend ≠ s.lastSend → t.result.released.isSome = true)

/-- An operation that leaves the three latches alone meets R42. -/
theorem latches_of_unchanged (i : Instr) {s t : State} (hw : t.warm = s.warm) (hv : t.lastValid = s.lastValid)
    (hl : t.lastSend = s.lastSend) : LatchesMoveBy i s t := by
  simp +contextual [LatchesMoveBy, hw, hv, hl]

/-- A release check in a state `u` that differs from `s` at most in QUEUE meets R42. -/
theorem latches_of_tryRelease {i : Instr} (hi : i.row ∈ [.tryrel, .tick, .rx, .rxtick]) {s u : State}
    (hu : u = { s with queue := u.queue }) (now : Timestamp) {v : Result} (hrel : v.released = (u.tryRelease now).1) :
    LatchesMoveBy i s { (u.tryRelease now).2 with result := v } := by
  have hwarm : u.warm = s.warm := by rw [hu]
  have hvalid : u.lastValid = s.lastValid := by rw [hu]
  have hsend : u.lastSend = s.lastSend := by rw [hu]
  have hcfg : u.cfg = s.cfg := by rw [hu]
  simp only [LatchesMoveBy, hrel, tryRelease_warm, tryRelease_lastValid, tryRelease_lastSend, ← tryRelease_count,
    ← hwarm, ← hvalid, ← hsend, ← hcfg]
  refine ⟨warmAfterGate_of_warm, fun hv => ?_, fun hw hgate => ⟨hi, threshold_of_warmAfterGate hw hgate⟩, fun hv => ?_,
    fun hne => ?_⟩
  · rw [hv, Bool.true_or]
  · rw [hv, Bool.false_or]
    exact id
  · by_contra hnone
    exact hne (if_neg hnone)

/-- Settles O43: an operation without a release check leaves the latches alone, and a check moves them as R42 says. -/
theorem latchesAreSetByReleaseChecksOnly : Obligations.LatchesAreSetByReleaseChecksOnly := by
  intro i s t hexec hreset
  change LatchesMoveBy i s t
  cases exec_effect hexec with
  | quiet => exact latches_of_unchanged _ rfl rfl rfl
  | enqueued | relayedHeld =>
    exact latches_of_unchanged _ (enqueue_warm s _) (enqueue_lastValid s _) (enqueue_lastSend s _)
  | @relayedChecked _ _ now f _ hi =>
    have hrow : i.row ∈ [.tryrel, .tick, .rx, .rxtick] := by rcases hi with rfl | ⟨rfl, _⟩ <;> simp [Instr.row]
    exact latches_of_tryRelease hrow (enqueue_frame s f) now rfl
  | checked hi =>
    have hrow : i.row ∈ [.tryrel, .tick, .rx, .rxtick] := by rcases hi with rfl | ⟨rfl, _⟩ <;> simp [Instr.row]
    exact latches_of_tryRelease hrow rfl _ rfl
  | constructed => cases hreset

/-! ## The status outputs -/

/-- EMPTY says that QUEUE is empty (R36). -/
theorem empty_iff (s : State) : s.empty = true ↔ s.queue = [] := by simp [State.empty, State.count]

/-- FULL says that QUEUE_CAP is finite and equals COUNT (R36). -/
theorem full_iff (s : State) : s.full = true ↔ s.cfg.queueCap = .finite s.queue.length := by
  unfold State.full State.count
  cases s.cfg.queueCap with
  | finite n => simp [Capacity.reachedBy, eq_comm]
  | infinite => simp [Capacity.reachedBy]

/-- With QUEUE_CAP = INFINITE the queue is never full (R36). -/
theorem full_of_infinite {s : State} (h : s.cfg.queueCap = .infinite) : s.full = false := by
  rw [State.full, h, Capacity.reachedBy]

/-- Settles O18. -/
theorem statusShowsTheQueue : Obligations.StatusShowsTheQueue :=
  fun s => ⟨rfl, rfl, empty_iff s, full_iff s, full_of_infinite⟩

/-! ## The state after RESET -/

/-- Settles O44: every field is the value written in `State.reset`. -/
theorem resetStateHoldsTheDefaults : Obligations.ResetStateHoldsTheDefaults := by
  simp [Obligations.ResetStateHoldsTheDefaults, State.reset, Configuration.default]

/-- Construction clears both latches and QUEUE, which is the start of ArrivalInv. -/
theorem construct_arrivalInv (s : State) (cfg : Configuration) : (s.construct cfg).ArrivalInv :=
  fun _ => ⟨rfl, fun _ => .inl rfl⟩

/-- The reset state is the block constructed with the defaults. -/
theorem reset_eq_construct : State.reset = State.reset.construct Configuration.default := rfl

/-- Settles O45: the reset state and what a RESET leaves are both constructed with a legal configuration. -/
theorem resetStateMeetsTheInvariants : Obligations.ResetStateMeetsTheInvariants := by
  refine ⟨?_, ?_, fun cfg s t h => ?_⟩
  · rw [reset_eq_construct]
    exact construct_inv _ (by decide)
  · rw [reset_eq_construct]
    exact construct_arrivalInv _ _
  · obtain ⟨hlegal, rfl⟩ := exec_reset h
    exact ⟨inv_setResult _ (construct_inv s hlegal), construct_arrivalInv s cfg⟩

end Machine
end Sys2Proof

/-! SUPPORT. The frames in the queue: what a run is made of (`Run`, `run_trace`), what an operation releases and leaves
queued (`exec_queue`), and the three statements about the memory of the block settled from them. -/

namespace Sys2Proof

/-- RESET is the one operation that `isReset` tells. -/
theorem isReset_iff {i : Instr} : i.isReset = true ↔ ∃ cfg, i = .reset cfg := by cases i <;> simp [Instr.isReset]

/-- The rows of the five events (R190). -/
abbrev Row.events : List Row := [.idle, .rx, .tick, .rxtick, .reset]

/-- The event decoder reads nothing but the five events (R112). -/
theorem decode_row {p : PortSample} {i : Instr} (h : decode p = .ok i) : i.row ∈ Row.events := by
  unfold decode at h
  split at h
  next => cases h; simp [Instr.row]
  next =>
    split at h
    next => cases h
    next => split at h <;> cases h <;> simp [Instr.row]
    next => split at h <;> cases h <;> simp [Instr.row]

namespace Machine

/-! ## Faults -/

/-- A step fetches one of the five events (R190). -/
theorem fetch_row {s u : State} {i : Instr} (h : s.fetch = .ok (i, u)) : i.row ∈ Row.events := by
  unfold State.fetch at h
  split at h
  next => cases h; simp [Instr.row]
  next =>
    split at h <;> cases h
    next hread => exact decode_row (readSample_decode hread)

/-- No event faults: each answers a next state or a refusal. -/
theorem exec_event_ne_fault {i : Instr} (hi : i.row ∈ Row.events) (s : State) (r : Fault) : exec i s ≠ .fault r := by
  intro h
  cases i with
  | idle => cases h
  | rx now f =>
    simp only [exec, execRx] at h
    split at h
    next => split at h <;> cases h
    next => cases h
  | tick now =>
    simp only [exec, execTick] at h
    split at h <;> cases h
  | rxtick now f =>
    simp only [exec, execRxtick] at h
    split at h <;> cases h
  | reset cfg =>
    simp only [exec, execReset] at h
    split at h <;> cases h
  | dec | chk | xpitch | xyaw | xroll | xposz | xposx | xposy | xzoom | xfocus | enq | tryrel => simp [Instr.row] at hi

/-- Settles O24: a step runs events only. -/
theorem noStepFaults : Obligations.NoStepFaults := by
  intro s r h
  unfold step at h
  split at h
  next => cases h
  next i u hfetch => exact exec_event_ne_fault (fetch_row hfetch) u r h

/-! ## Runs -/

/-- `Run s tr u`: a run from `s` with trace `tr` that has reached `u`. -/
inductive Run : State → List (Instr × State) → State → Prop
  /-- No step, or one that does not complete. -/
  | stop (s : State) : Run s [] s
  /-- A step that completes, and the run from the state it leaves. -/
  | next {s t u : State} {i : Instr} {tr : List (Instr × State)}
      (hfetch : s.fetch = .ok (i, { s with inputs := s.inputs.tail }))
      (hexec : exec i { s with inputs := s.inputs.tail } = .next t) (hrun : Run t tr u) : Run s ((i, t) :: tr) u

/-- A completed step is the head of the trace, and the rest is that of the state it leaves. -/
theorem trace_succ_of_next {s t u : State} {i : Instr} (k : Nat) (hfetch : s.fetch = .ok (i, u)) (h : step s = .next t) :
    s.trace (k + 1) = (i, t) :: t.trace k := by
  simp only [State.trace, hfetch, h]

/-- A run that does not complete its first step has the empty trace. -/
theorem trace_succ_of_not_next {s : State} (k : Nat) (h : ∀ t, step s ≠ .next t) : s.trace (k + 1) = [] := by
  unfold State.trace
  split
  next hstep => exact absurd hstep (h _)
  next => rfl

/-- What a run reaches is what the rest of it reaches after its first step. -/
theorem after_of_trace_cons {s t : State} {i : Instr} {j k : Nat} (h : s.trace j = (i, t) :: t.trace k) :
    s.after j = t.after k := by
  unfold State.after
  rw [h, List.getLast?_cons]
  cases (t.trace k).getLast? <;> rfl

/-- A run with the empty trace stays where it is. -/
theorem after_of_trace_nil {s : State} {k : Nat} (h : s.trace k = []) : s.after k = s := by
  rw [State.after, h, List.getLast?_nil]

/-- The trace and the state reached that the statements speak of are those of a run. -/
theorem run_trace (k : Nat) (s : State) : Run s (s.trace k) (s.after k) := by
  induction k generalizing s with
  | zero => exact .stop s
  | succ k ih =>
    by_cases hnext : ∃ t, step s = .next t
    · obtain ⟨t, hstep⟩ := hnext
      obtain ⟨i, hfetch, hexec⟩ := step_cases hstep
      have htrace := trace_succ_of_next k hfetch hstep
      rw [after_of_trace_cons htrace, htrace]
      exact .next hfetch hexec (ih t)
    · have htrace := trace_succ_of_not_next k (not_exists.mp hnext)
      rw [after_of_trace_nil htrace, htrace]
      exact .stop s

@[simp] theorem releasedFrames_nil : releasedFrames [] = [] := rfl

@[simp] theorem releasedFrames_cons (i : Instr) (t : State) (tr : List (Instr × State)) :
    releasedFrames ((i, t) :: tr) = t.result.released.toList ++ releasedFrames tr := by
  cases h : t.result.released <;> simp [releasedFrames, h]

@[simp] theorem presentedFrames_nil : presentedFrames [] = [] := rfl

@[simp] theorem presentedFrames_cons (i : Instr) (t : State) (tr : List (Instr × State)) :
    presentedFrames ((i, t) :: tr) = i.arriving.toList ++ presentedFrames tr := by
  cases h : i.arriving <;> simp [presentedFrames, h]

/-! ## What one operation does to the queue -/

/-- QUEUE as the ENQ of an operation leaves it: unchanged when no frame arrives. -/
def State.queueAfterArrival (s : State) (i : Instr) : List RawFrame :=
  match i.arriving with
  | none => s.queue
  | some f => (s.enqueue f).2.queue

/-- What an operation other than RESET releases, and leaves queued, is the queue that its ENQ has left. -/
theorem exec_queue {i : Instr} {s t : State} (h : exec i s = .next t) (hi : i.isReset = false) :
    t.result.released.toList ++ t.queue = s.queueAfterArrival i := by
  unfold State.queueAfterArrival
  cases exec_effect h with
  | quiet _ harr hrel => simp only [harr, hrel, Option.toList_none, List.nil_append]
  | enqueued | relayedHeld => rfl
  | relayedChecked _ hi => rcases hi with rfl | ⟨rfl, _⟩ <;> exact (tryRelease_queue _ _).symm
  | checked hi => rcases hi with rfl | ⟨rfl, _⟩ <;> exact (tryRelease_queue _ _).symm
  | constructed => cases hi

/-! ## Order -/

/-- ENQ keeps the order of QUEUE, the arriving frame last. -/
theorem enqueue_sublist (s : State) (f : RawFrame) : (s.enqueue f).2.queue.Sublist (s.queue ++ [f]) := by
  rcases enqueue_cases s f with ⟨_, e⟩ | ⟨_, _, e⟩ | ⟨_, _, d, rest, hq, e⟩ <;> rw [e]
  · exact List.sublist_append_left s.queue [f]
  · rw [hq]
    exact List.sublist_cons_self d (rest ++ [f])

/-- Every operation releases and leaves queued frames of the queue and the arriving one, in their order. -/
theorem exec_sublist {i : Instr} {s t : State} (h : exec i s = .next t) :
    (t.result.released.toList ++ t.queue).Sublist (s.queue ++ i.arriving.toList) := by
  cases hi : i.isReset with
  | true =>
    obtain ⟨cfg, rfl⟩ := isReset_iff.mp hi
    obtain ⟨_, rfl⟩ := exec_reset h
    exact List.nil_sublist _
  | false =>
    rw [exec_queue h hi, State.queueAfterArrival]
    cases i.arriving with
    | none => simp
    | some f => exact enqueue_sublist s f

/-- Over a run, what is released and then still queued keeps the order of arrival (R75). -/
theorem run_sublist {s u : State} {tr : List (Instr × State)} (h : Run s tr u) :
    (releasedFrames tr ++ u.queue).Sublist (s.queue ++ presentedFrames tr) := by
  induction h with
  | stop s => simp
  | @next s t u i tr _ hexec _ ih =>
    have hstep : (t.result.released.toList ++ t.queue).Sublist (s.queue ++ i.arriving.toList) :=
      exec_sublist (s := { s with inputs := s.inputs.tail }) hexec
    calc releasedFrames ((i, t) :: tr) ++ u.queue
        = t.result.released.toList ++ (releasedFrames tr ++ u.queue) := by simp
      _ |>.Sublist (t.result.released.toList ++ (t.queue ++ presentedFrames tr)) := ih.append_left _
      _ = (t.result.released.toList ++ t.queue) ++ presentedFrames tr := by simp
      _ |>.Sublist ((s.queue ++ i.arriving.toList) ++ presentedFrames tr) := hstep.append_right _
      _ = s.queue ++ presentedFrames ((i, t) :: tr) := by simp

/-- Settles O48. -/
theorem releasesAreInArrivalOrder : Obligations.ReleasesAreInArrivalOrder := fun k s => run_sublist (run_trace k s)

/-! ## No loss -/

/-- With QUEUE_CAP = INFINITE every arriving frame is queued at the tail (R176). -/
theorem enqueue_of_infinite {s : State} (h : s.cfg.queueCap = .infinite) (f : RawFrame) :
    s.enqueue f = (.noDrop, { s with queue := s.queue ++ [f] }) := by
  simp [State.enqueue, full_of_infinite h]

/-- With QUEUE_CAP = INFINITE an operation other than RESET loses no frame. -/
theorem exec_queue_of_infinite {i : Instr} {s t : State} (hcap : s.cfg.queueCap = .infinite) (h : exec i s = .next t)
    (hi : i.isReset = false) : t.result.released.toList ++ t.queue = s.queue ++ i.arriving.toList := by
  rw [exec_queue h hi, State.queueAfterArrival]
  cases i.arriving with
  | none => simp
  | some f => simp [enqueue_of_infinite hcap]

/-- Over a run with QUEUE_CAP = INFINITE and no RESET, what is released and then still queued is all there was. -/
theorem run_queue_of_infinite {s u : State} {tr : List (Instr × State)} (h : Run s tr u)
    (hcap : s.cfg.queueCap = .infinite) (hreset : NoReset tr) :
    releasedFrames tr ++ u.queue = s.queue ++ presentedFrames tr := by
  induction h with
  | stop s => simp
  | @next s t u i tr _ hexec _ ih =>
    obtain ⟨hi, htail⟩ := List.forall_mem_cons.mp hreset
    have hcap' : t.cfg.queueCap = .infinite := by rw [exec_cfg hexec hi]; exact hcap
    have hstep : t.result.released.toList ++ t.queue = s.queue ++ i.arriving.toList :=
      exec_queue_of_infinite (s := { s with inputs := s.inputs.tail }) hcap hexec hi
    calc releasedFrames ((i, t) :: tr) ++ u.queue
        = t.result.released.toList ++ (releasedFrames tr ++ u.queue) := by simp
      _ = (t.result.released.toList ++ t.queue) ++ presentedFrames tr := by simp [ih hcap' htail]
      _ = s.queue ++ presentedFrames ((i, t) :: tr) := by simp [hstep]

/-- Settles O49. -/
theorem unboundedQueueLosesNothing : Obligations.UnboundedQueueLosesNothing :=
  fun k s hcap hreset => run_queue_of_infinite (run_trace k s) hcap hreset

end Machine
end Sys2Proof

/-! SUPPORT. The encodings of the ports: the beats of a frame and what the receiver reads from them (`readBeats_frameBeats`),
the event a sample presents (`decode_of_frame`, `evt_eq_of_frame`), the sample the encoder writes (`encode_frame`,
`decodeRow_encode`), and the six statements of encoding settled from them. -/

namespace Sys2Proof

/-! ## The beats of a frame -/

/-- The beats of a non-empty frame are read back as its bytes. -/
theorem readDataBeats_frameBeats {f : RawFrame} (hf : f ≠ []) : readDataBeats (frameBeats f) = .ok f := by
  induction f using frameBeats.induct with
  | case1 => exact absurd rfl hf
  | case2 b => rfl
  | case3 b c rest ih => simp [frameBeats, readDataBeats, Beat.ofByte, ih]

/-- The beats of a frame are valid, and have `null` set just when the frame is the zero-length one. -/
theorem frameBeats_valid_null {f : RawFrame} {b : Beat} (hb : b ∈ frameBeats f) : b.valid = true ∧ b.null = f.isEmpty := by
  induction f using frameBeats.induct with
  | case1 => cases List.mem_singleton.mp hb; exact ⟨rfl, rfl⟩
  | case2 c => cases List.mem_singleton.mp hb; exact ⟨rfl, rfl⟩
  | case3 c d rest ih =>
    rcases List.mem_cons.mp hb with rfl | hb
    · exact ⟨rfl, rfl⟩
    · exact ih hb

/-- The receiver reads every frame back from its beats (R106). -/
theorem readBeats_frameBeats (f : RawFrame) : readBeats (frameBeats f) = .ok f := by
  cases f with
  | nil => rfl
  | cons b rest =>
    have hdata := readDataBeats_frameBeats (List.cons_ne_nil b rest)
    cases rest with
    | nil => rfl
    | cons c rest => simpa [frameBeats, readBeats, Beat.ofByte] using hdata

/-- A non-empty frame's beats carry its bytes, byte 0 first. -/
theorem frameBeats_data {f : RawFrame} (hf : f ≠ []) : (frameBeats f).map (fun b => b.data) = f := by
  induction f using frameBeats.induct with
  | case1 => exact absurd rfl hf
  | case2 b => rfl
  | case3 b c rest ih => simp [frameBeats, Beat.ofByte, ih]

/-- `last` stands on the final beat only. -/
theorem frameBeats_last (f : RawFrame) :
    (frameBeats f).map (fun b => b.last) = List.replicate (f.length - 1) false ++ [true] := by
  induction f using frameBeats.induct with
  | case1 | case2 => rfl
  | case3 b c rest ih => simpa [frameBeats, Beat.ofByte, List.replicate_succ] using ih

/-- Settles O17. -/
theorem frameBeatsCarryTheFrame : Obligations.FrameBeatsCarryTheFrame :=
  fun f => ⟨readBeats_frameBeats f, fun _ => frameBeats_valid_null, frameBeats_data, frameBeats_last f⟩

/-! ## The event a sample presents -/

/-- Bytes are read only from beats of which one carries `last`. -/
theorem any_last_of_readDataBeats {bs : List Beat} {f : RawFrame} (h : readDataBeats bs = .ok f) :
    bs.any (fun b => b.last) = true := by
  induction bs generalizing f with
  | nil => cases h
  | cons b rest ih =>
    unfold readDataBeats at h
    split at h
    next => cases h
    next =>
      split at h
      next hlast => simp [hlast]
      next =>
        split at h
        next hrest => rw [List.any_cons, ih hrest, Bool.or_true]
        next => cases h

/-- A frame is read only from beats of which one carries `last`, the null beat included. -/
theorem any_last_of_readBeats {bs : List Beat} {f : RawFrame} (h : readBeats bs = .ok f) :
    bs.any (fun b => b.last) = true := by
  cases bs with
  | nil => cases h
  | cons b rest =>
    unfold readBeats at h
    dsimp only at h
    split at h
    next =>
      split at h
      next hlast => simp [hlast]
      next => cases h
      next => cases h
    next => exact any_last_of_readDataBeats h

/-- The `rx` bit tells whether the event has a frame (R102, R106). -/
theorem rx_of_frame {p : PortSample} {fr : Option RawFrame} (h : p.frame = .ok fr) : p.rx = fr.isSome := by
  unfold PortSample.frame at h
  unfold PortSample.rx
  split at h
  next hbeats => cases h; rw [hbeats]; rfl
  next b rest hbeats =>
    split at h <;> cases h
    next hread => rw [hbeats]; exact any_last_of_readBeats hread

/-- The event that a tick input and an inbound frame make (R102), the codes 10 and 11 being read as under EXTERNAL (log 7). -/
def eventOf (tick : Bool) (now : Timestamp) (fr : Option RawFrame) : Instr :=
  match tick, fr with
  | false, none => .idle
  | true, none => .tick now
  | false, some f => .rx now f
  | true, some f => .rxtick now f

/-- With `rst` clear and a frame or none presented, the event decoder reads the event of `tick` and the frame. -/
theorem decode_of_frame {p : PortSample} {fr : Option RawFrame} (hrst : p.rst = false) (hframe : p.frame = .ok fr) :
    decode p = .ok (eventOf p.tick p.now fr) := by
  unfold decode
  rw [hrst, hframe]
  cases fr <;> cases p.tick <;> rfl

/-- EVT is the tick input and whether there is a frame (R102). -/
theorem evt_eq_of_frame {p : PortSample} {fr : Option RawFrame} (hframe : p.frame = .ok fr) :
    p.evt = BitVec.ofBool p.tick ++ BitVec.ofBool fr.isSome := by rw [PortSample.evt, rx_of_frame hframe]

/-- A sample with a frame's beats on the inbound port presents that frame. -/
theorem frame_of_frameBeats {p : PortSample} {f : RawFrame} (h : p.inbound = frameBeats f) : p.frame = .ok (some f) := by
  have hread := readBeats_frameBeats f
  unfold PortSample.frame PortSample.beats
  rw [h, Laws.frameBeats_filter_valid]
  cases hbeats : frameBeats f with
  | nil => rw [hbeats] at hread; cases hread
  | cons b rest => rw [hbeats] at hread; simp only [hread]

/-- A sample with no beats presents no frame. -/
theorem frame_of_nil {p : PortSample} (h : p.inbound = []) : p.frame = .ok none := by
  simp [PortSample.frame, PortSample.beats, h]

/-! ## The encoder -/

/-- The frame an operation works on: its operand, if it has one. -/
def Instr.frame (i : Instr) : Option RawFrame :=
  match i with
  | .idle | .tick _ | .reset _ | .tryrel _ => none
  | .rx _ f | .rxtick _ f | .dec f | .chk f | .xpitch f | .xyaw f | .xroll f | .xposz f | .xposx f | .xposy f | .xzoom f
  | .xfocus f | .enq f => some f

/-- The sample written for an operation presents the operation's frame. -/
theorem encode_frame (held : Configuration) (i : Instr) : (encode held i).frame = .ok i.frame := by
  cases i with
  | idle | tick | reset | tryrel => exact frame_of_nil rfl
  | rx | rxtick | dec | chk | xpitch | xyaw | xroll | xposz | xposx | xposy | xzoom | xfocus | enq =>
    exact frame_of_frameBeats rfl

/-- The sample written for an operation fits the operation's row. -/
theorem encode_fits_row (i : Instr) : Laws.TableRow.Statement i :=
  match i with
  | .idle => Laws.TableRow.idle
  | .rx now f => Laws.TableRow.rx now f
  | .tick now => Laws.TableRow.tick now
  | .rxtick now f => Laws.TableRow.rxtick now f
  | .reset cfg => Laws.TableRow.reset cfg
  | .dec f => Laws.TableRow.dec f
  | .chk f => Laws.TableRow.chk f
  | .xpitch f => Laws.TableRow.xpitch f
  | .xyaw f => Laws.TableRow.xyaw f
  | .xroll f => Laws.TableRow.xroll f
  | .xposz f => Laws.TableRow.xposz f
  | .xposx f => Laws.TableRow.xposx f
  | .xposy f => Laws.TableRow.xposy f
  | .xzoom f => Laws.TableRow.xzoom f
  | .xfocus f => Laws.TableRow.xfocus f
  | .enq f => Laws.TableRow.enq f
  | .tryrel now => Laws.TableRow.tryrel now

/-- An operation with its operands in order is read back by its own row (R113). -/
theorem decodeRow_encode (held : Configuration) {i : Instr} (hwf : i.wf = true) :
    decodeRow i.row .external (encode held i) = some i := by
  have hframe := encode_frame held i
  obtain ⟨hrst, hfits⟩ := encode_fits_row i held
  cases i with
  | reset cfg => rfl
  | idle | rx | tick | rxtick | enq | tryrel =>
    have hpat := hfits _ rfl
    simp only [decodeRow, Instr.row, Row.evtPatterns, hrst, Instr.isReset, hframe, Instr.frame, hpat]
    rfl
  | dec f => simp only [decodeRow, Instr.row, Row.evtPatterns, hrst, Instr.isReset, hframe, Instr.frame]; rfl
  | chk f | xpitch f | xyaw f | xroll f | xposz f | xposx f | xposy f | xzoom f | xfocus f =>
    have hlen : Config.frameLen ≤ f.length := of_decide_eq_true hwf
    simp only [decodeRow, Instr.row, Row.evtPatterns, hrst, Instr.isReset, hframe, Instr.frame, if_pos hlen]
    rfl

/-- An event is read back by the event decoder. -/
theorem decode_encode (held : Configuration) {i : Instr} (hi : i.row ∈ Row.events) : decode (encode held i) = .ok i := by
  have hframe := encode_frame held i
  cases i with
  | reset cfg => exact decode_of_rst rfl
  | idle | rx | tick | rxtick => exact decode_of_frame rfl hframe
  | dec | chk | xpitch | xyaw | xroll | xposz | xposx | xposy | xzoom | xfocus | enq | tryrel => simp [Instr.row] at hi

/-- Settles O19. -/
theorem encodedOperationsDecodeToThemselves : Obligations.EncodedOperationsDecodeToThemselves :=
  fun held _ hwf => ⟨decodeRow_encode held hwf, decode_encode held⟩

/-! ## The event codes -/

namespace Machine

/-- Under ARRIVAL a TICK does what IDLE does (R102, R194). -/
theorem exec_tick_of_arrival {s : State} (hsrc : s.cfg.tickSource = .arrival) (now : Timestamp) :
    exec (.tick now) s = exec .idle s := by
  simp only [exec, execTick, execIdle, hsrc]

/-- Under ARRIVAL an RXTICK does what RX does (R102, R195). -/
theorem exec_rxtick_of_arrival {s : State} (hsrc : s.cfg.tickSource = .arrival) (now : Timestamp) (f : RawFrame) :
    exec (.rxtick now f) s = exec (.rx now f) s := by
  simp only [exec, execRxtick, execRx, hsrc]

/-- Settles O20: the event code tells the tick input and whether there is a frame, which are what the decoder looks at. -/
theorem eventCodesSelectTheOperation : Obligations.EventCodesSelectTheOperation := by
  refine ⟨fun _ => decode_of_rst, fun p fr s hrst hframe => ⟨_, decode_of_frame hrst hframe, ?_⟩⟩
  rw [evt_eq_of_frame hframe]
  cases p.tick <;> cases fr
  case false.none => simp [eventOf]
  case false.some f => simp [eventOf]
  case true.none => simpa [eventOf] using fun hsrc => exec_tick_of_arrival hsrc p.now
  case true.some f => simpa [eventOf] using fun hsrc => exec_rxtick_of_arrival hsrc p.now f

/-- Settles O23: what a step fetches is an event. -/
theorem onlyEventsAreInvokedByTheHost : Obligations.OnlyEventsAreInvokedByTheHost := by
  intro s t hstep
  obtain ⟨i, hfetch, hexec⟩ := step_cases hstep
  exact ⟨i, fetch_row hfetch, hexec⟩

/-! ## The decode result record -/

/-- A DecodeResult has one of three statuses (R105). -/
theorem status_ne_three (d : DecodeResult) : d.status ≠ 0b11#2 := by
  rcases d with r | _ | _ <;> simp [DecodeResult.status]

/-- Settles O15: a field of REC is what is left of the word when the fields below it and above it are taken off. (The
widths 8 and 24 are named for the rewriting to see 202 as a sum that ends in the lowest field's width.) -/
theorem recordWordLayout : Obligations.RecordWordLayout := by
  refine ⟨fun r => ⟨r.word, rfl, ?_⟩, fun _ => rfl, fun _ => rfl, rfl, rfl, status_ne_three⟩
  unfold FreeDFrame.word
  simp [BitVec.extractLsb'_append_eq_of_le (w := 8), BitVec.extractLsb'_append_eq_of_le (w := 24),
    BitVec.extractLsb'_append_eq_of_add_le (w := 8), BitVec.extractLsb'_append_eq_of_add_le (w := 24)]

/-- Settles O21. -/
theorem writtenSamplesDecode : Obligations.WrittenSamplesDecode := ⟨rfl, rfl, rfl, rfl, rfl⟩

end Machine
end Sys2Proof

/-! SUPPORT. The Decoder: what a 3-byte group reads as (`fieldAt_memRead3`, `signed24_eq`, `degrees_eq`, `millimetres_eq`),
the checksum as a sum of bytes (`computedChecksum_eq_sub_sum`, `checksumHolds_iff_sum`), the three cases of DEC
(`decodeFrame_of_short`, `decodeFrame_of_checksum`, `decodeFrame_of_mismatch`), and the thirteen statements of the
Decoder settled from them. -/

namespace Sys2Proof
namespace Machine

/-! ## Fields -/

/-- Three bytes concatenated are their big-endian value (R64, R93). -/
theorem toNat_append3 (b0 b1 b2 : Byte) :
    (b0 ++ b1 ++ b2).toNat = b0.toNat * 65536 + b1.toNat * 256 + b2.toNat := by
  rw [BitVec.toNat_append, BitVec.toNat_append, ← Nat.shiftLeft_add_eq_or_of_lt b1.isLt,
    ← Nat.shiftLeft_add_eq_or_of_lt b2.isLt, Nat.shiftLeft_eq, Nat.shiftLeft_eq]
  omega

/-- MemRead reads the group at its offset, for every offset of a field (R17, R138). -/
theorem fieldAt_memRead3 {f : RawFrame} {o : Nat} (hf : Config.frameLen ≤ f.length)
    (ho : o + 3 ≤ Config.frameLen := by decide) : FieldAt f o (memRead3 f o (ho.trans hf)) :=
  ⟨_, _, _, List.getElem?_eq_getElem _, List.getElem?_eq_getElem _, List.getElem?_eq_getElem _, toNat_append3 _ _ _⟩

/-- The model's `signed_24` is the spec's (R16, R94). -/
theorem signed24_eq (p : Field24) : signed24 p = signedValue p.toNat := by
  rw [signed24, BitVec.toInt_eq_toNat_cond, signedValue]
  split <;> split <;> omega

/-- A rotation is its signed integer over 2^15 (R125). -/
theorem degrees_eq_div_pow (r : Rotation) : r.degrees = (signed24 r.s : Rat) / 2 ^ 15 := by norm_num [Rotation.degrees]

/-- A position is its signed integer over 2^6 (R126). -/
theorem millimetres_eq_div_pow (p : Position) : p.millimetres = (signed24 p.s : Rat) / 2 ^ 6 := by
  norm_num [Position.millimetres]

/-- The rotation formula of R129 to R131, by the spec's `signed_24`. -/
theorem degrees_eq (r : Rotation) : r.degrees = (signedValue r.s.toNat : Rat) / 32768 := by
  rw [degrees_eq_div_pow, signed24_eq]
  norm_num

/-- The position formula of R132 to R134, by the spec's `signed_24`. -/
theorem millimetres_eq (p : Position) : p.millimetres = (signedValue p.s.toNat : Rat) / 64 := by
  rw [millimetres_eq_div_pow, signed24_eq]
  norm_num

/-- Settles O3: each extractor is a MemRead at its own offset. -/
theorem rotationExtractorsReadTheirFields : Obligations.RotationExtractorsReadTheirFields := fun f _ h =>
  ⟨⟨extractPitch f h, dif_pos h, fieldAt_memRead3 h, degrees_eq _⟩,
    ⟨extractYaw f h, dif_pos h, fieldAt_memRead3 h, degrees_eq _⟩,
    ⟨extractRoll f h, dif_pos h, fieldAt_memRead3 h, degrees_eq _⟩⟩

/-- Settles O4: each extractor is a MemRead at its own offset. -/
theorem positionExtractorsReadTheirFields : Obligations.PositionExtractorsReadTheirFields := fun f _ h =>
  ⟨⟨extractPosz f h, dif_pos h, fieldAt_memRead3 h, millimetres_eq _⟩,
    ⟨extractPosx f h, dif_pos h, fieldAt_memRead3 h, millimetres_eq _⟩,
    ⟨extractPosy f h, dif_pos h, fieldAt_memRead3 h, millimetres_eq _⟩⟩

/-- Settles O5: each extractor is a MemRead at its own offset. -/
theorem lensExtractorsReadUnsigned : Obligations.LensExtractorsReadUnsigned := fun f _ h =>
  ⟨⟨extractZoom f h, dif_pos h, fieldAt_memRead3 h, rfl⟩, ⟨extractFocus f h, dif_pos h, fieldAt_memRead3 h, rfl⟩⟩

/-- Settles O13: DEC has no precondition, and its parts test nothing but the length. -/
theorem decoderIsPure : Obligations.DecoderIsPure := by
  refine ⟨fun f => ⟨_, fun _ => rfl⟩, fun f i h hi => ?_⟩
  obtain ⟨_, _, v, _, he⟩ := exec_part hi
  exact ⟨v h, fun s => (he s).trans (dif_pos h)⟩

/-- Settles O39: of the effects an operation can have, only the quiet one is an effect of these operations. -/
theorem decoderOperationsChangeNoState : Obligations.DecoderOperationsChangeNoState := by
  intro i s t h hrow
  cases exec_effect h with
  | quiet => rfl
  | relayedChecked _ hi | checked hi => rcases hi with rfl | ⟨rfl, _⟩ <;> simp [Instr.row] at hrow
  | enqueued | relayedHeld | constructed => simp [Instr.row] at hrow

/-! ## The signed assembly and the scaled values -/

/-- The 32-bit intermediate is the group with a zero byte below it, bit by bit (R124). -/
theorem word32_eq_append (b0 b1 b2 : Byte) :
    (b0.setWidth 32 <<< 24) ||| (b1.setWidth 32 <<< 16) ||| (b2.setWidth 32 <<< 8) = b0 ++ b1 ++ b2 ++ 0#8 := by
  ext i hi
  simp only [BitVec.getElem_or, BitVec.getElem_shiftLeft, BitVec.getElem_setWidth, BitVec.getElem_append (m := 8)]
  grind

/-- The least value of a signed group (R124). -/
theorem le_signed24 (p : Field24) : -8388608 ≤ signed24 p := BitVec.le_toInt p

/-- The greatest value of a signed group (R124). -/
theorem signed24_le (p : Field24) : signed24 p ≤ 8388607 := Int.le_of_lt_add_one (BitVec.toInt_lt (x := p))

/-- A group is negative exactly when the top bit of its first byte is 1 (R124). -/
theorem signed24_neg_iff (b0 b1 b2 : Byte) : signed24 (b0 ++ b1 ++ b2) < 0 ↔ b0.getLsbD 7 = true := by
  have hmsb : (b0 ++ b1 ++ b2).msb = b0.getLsbD 7 := by
    rw [BitVec.msb_append, if_neg (by decide), BitVec.msb_append, if_neg (by decide), BitVec.msb_eq_getLsbD_last]
  rw [← hmsb, BitVec.msb_eq_toInt, decide_eq_true_iff, signed24]

/-- Settles O6: appending a zero byte multiplies the signed value by 256. -/
theorem signedAssemblyByWayOf32Bits : Obligations.SignedAssemblyByWayOf32Bits := by
  intro b0 b1 b2
  refine ⟨?_, ?_, le_signed24 _, signed24_le _, signed24_neg_iff b0 b1 b2⟩
  · rw [word32_eq_append, BitVec.toInt_append]
    simp [signed24]
  · rw [signed24_eq, toNat_append3]

/-- Settles O7: the ranges are those of the 24-bit integer, divided. -/
theorem scaledValuesAreExactAndInRange : Obligations.ScaledValuesAreExactAndInRange := by
  have hlo (p : Field24) : (-8388608 : Rat) ≤ (signed24 p : Rat) := by exact_mod_cast le_signed24 p
  have hhi (p : Field24) : (signed24 p : Rat) ≤ 8388607 := by exact_mod_cast signed24_le p
  refine ⟨fun r => ⟨degrees_eq_div_pow r, ?_⟩, fun p => ⟨millimetres_eq_div_pow p, ?_⟩⟩
  · rw [degrees_eq_div_pow]
    constructor <;> linarith [hlo r.s, hhi r.s]
  · rw [millimetres_eq_div_pow]
    constructor <;> linarith [hlo p.s, hhi p.s]

/-! ## The checksum -/

/-- Modulo 256, the sum of the first `n` bytes is the sum of the bytes as words. -/
theorem cast_sumOfFirst (n : Nat) (f : RawFrame) : ((sumOfFirst n f : Nat) : Byte) = (f.take n).sum := by
  simp [sumOfFirst, Nat.cast_list_sum, Function.comp_def]

/-- The formula of R121, as a number. -/
theorem toNat_computedChecksum (f : RawFrame) :
    ((computedChecksum f).toNat : Int) = (64 - (sumOfFirst 28 f : Int)) % 256 := by
  change ((BitVec.ofNat 8 ((64 - (sumOfFirst 28 f : Int)) % 256).toNat).toNat : Int) = _
  rw [BitVec.toNat_ofNat]
  omega

/-- The formula of R121, as a difference of words. -/
theorem computedChecksum_eq_sub_sum (f : RawFrame) : computedChecksum f = 64#8 - (f.take 28).sum := by
  rw [← cast_sumOfFirst]
  apply BitVec.eq_of_toNat_eq
  rw [BitVec.toNat_sub, BitVec.natCast_eq_ofNat, BitVec.toNat_ofNat, BitVec.toNat_ofNat]
  have h := toNat_computedChecksum f
  omega

/-- An accumulator from which words are subtracted one by one has lost their sum. -/
theorem foldl_sub_eq_sub_sum (l : List Byte) (a : Byte) : l.foldl (fun acc b => acc - b) a = a - l.sum := by
  induction l generalizing a with
  | nil => simp
  | cons b l ih => rw [List.foldl_cons, ih, List.sum_cons, sub_sub]

/-- The checksum holds exactly when the computed byte is the stored one. -/
theorem checksumHolds_iff_computed {f : RawFrame} (h : 28 < f.length) : ChecksumHolds f ↔ computedChecksum f = f[28] := by
  have he : f[28]? = some f[28] := List.getElem?_eq_getElem h
  rw [← BitVec.toNat_inj, ← Int.ofNat_inj, toNat_computedChecksum]
  simp [ChecksumHolds, he, eq_comm]

/-- A frame's checksum holds exactly when its first 29 bytes sum to 64, as words (R122). -/
theorem checksumHolds_iff_sum {f : RawFrame} (h : 28 < f.length) : ChecksumHolds f ↔ (f.take 29).sum = 64#8 := by
  rw [checksumHolds_iff_computed h, computedChecksum_eq_sub_sum, List.sum_take_succ f 28 h, sub_eq_iff_eq_add',
    eq_comm]

/-- Settles O8: both forms are the sum of the bytes as 8-bit words. -/
theorem checksumIsAnAccumulator : Obligations.ChecksumIsAnAccumulator := by
  intro f h
  refine ⟨by rw [computedChecksum_eq_sub_sum, foldl_sub_eq_sub_sum], ?_⟩
  rw [checksumHolds_iff_sum h, ← cast_sumOfFirst, ← BitVec.toNat_inj]
  simp

/-- Settles O2. -/
theorem chkComparesComputedWithStored : Obligations.ChkComparesComputedWithStored := fun f _ h =>
  ⟨checkFrame f h, dif_pos h, toNat_computedChecksum f, List.getElem?_eq_getElem _, rfl⟩

/-! ## DEC -/

/-- CHK's third value tells whether the checksum holds. -/
theorem checkFrame_ok_iff {f : RawFrame} (h : Config.frameLen ≤ f.length) :
    (checkFrame f h).ok = true ↔ ChecksumHolds f := by
  rw [checksumHolds_iff_computed h]
  exact beq_iff_eq

/-- DEC tests the length first (R137, R138). -/
theorem decodeFrame_of_short {f : RawFrame} (h : f.length < 29) : decodeFrame f = .err .tooShort := dif_pos h

/-- With the length and the checksum right, DEC reads the record (R137). -/
theorem decodeFrame_of_checksum {f : RawFrame} (h : 29 ≤ f.length) (hc : ChecksumHolds f) :
    decodeFrame f = .ok (extractRecord f h) := by
  rw [decodeFrame, dif_neg (Nat.not_lt_of_le h), if_pos ((checkFrame_ok_iff h).2 hc)]

/-- DEC tests the checksum second (R137). -/
theorem decodeFrame_of_mismatch {f : RawFrame} (h : 29 ≤ f.length) (hc : ¬ ChecksumHolds f) :
    decodeFrame f = .err .checksumMismatch := by
  rw [decodeFrame, dif_neg (Nat.not_lt_of_le h), if_neg (mt (checkFrame_ok_iff h).1 hc)]

/-- DEC reads a record exactly when the length and the checksum are right: nothing else is checked (R140). -/
theorem decodeFrame_ok_iff {f : RawFrame} : (∃ r, decodeFrame f = .ok r) ↔ 29 ≤ f.length ∧ ChecksumHolds f := by
  constructor
  · rintro ⟨r, hr⟩
    by_cases h : 29 ≤ f.length
    · by_cases hc : ChecksumHolds f
      · exact ⟨h, hc⟩
      · rw [decodeFrame_of_mismatch h hc] at hr; cases hr
    · rw [decodeFrame_of_short (Nat.lt_of_not_le h)] at hr; cases hr
  · rintro ⟨h, hc⟩
    exact ⟨_, decodeFrame_of_checksum h hc⟩

/-- DEC answers a next state that differs in the returned value only. -/
theorem exec_dec (f : RawFrame) (s : State) : exec (.dec f) s = .next { s with result := .decode (decodeFrame f) } := rfl

/-- What DEC returns is what `decodeFrame` says of the frame. -/
theorem exec_dec_eq_iff {f : RawFrame} {s : State} {d : DecodeResult} :
    exec (.dec f) s = .next { s with result := .decode d } ↔ decodeFrame f = d := by
  simp [exec_dec]

/-- The record DEC reads holds the frame's bytes at their offsets (R34, R71). -/
theorem recordOf_extractRecord (f : RawFrame) (h : Config.frameLen ≤ f.length) : RecordOf f (extractRecord f h) :=
  ⟨fieldAt_memRead3 h, fieldAt_memRead3 h, fieldAt_memRead3 h, fieldAt_memRead3 h, fieldAt_memRead3 h,
    fieldAt_memRead3 h, fieldAt_memRead3 h, fieldAt_memRead3 h, List.getElem?_eq_getElem _⟩

/-- Settles O1, by the three cases of `decodeFrame`. -/
theorem decClassifiesEveryFrame : Obligations.DecClassifiesEveryFrame := fun f _ =>
  ⟨fun h => exec_dec_eq_iff.2 (decodeFrame_of_short h),
    fun h hc => exec_dec_eq_iff.2 (decodeFrame_of_mismatch h hc),
    fun h hc => ⟨_, exec_dec_eq_iff.2 (decodeFrame_of_checksum h hc), recordOf_extractRecord f h⟩⟩

/-! ## Frames that differ in a byte -/

/-- A single bit turned changes a byte. -/
theorem xor_bit_ne {b : Byte} {k : Nat} (hk : k < 8) : b ^^^ (1#8 <<< k) ≠ b := by
  intro h
  have hbit : (b ^^^ (1#8 <<< k)).getLsbD k = b.getLsbD k := by rw [h]
  simp [hk] at hbit

/-- One changed byte among the first 29 breaks a checksum that holds: the sum changes by the difference (R123). -/
theorem not_checksumHolds_set {f : RawFrame} {i : Nat} {b c : Byte} (hlen : 29 ≤ f.length) (hc : ChecksumHolds f)
    (hi : i < 29) (hb : f[i]? = some b) (hne : c ≠ b) : ¬ ChecksumHolds (f.set i c) := by
  obtain ⟨hif, rfl⟩ := List.getElem?_eq_some_iff.1 hb
  rw [checksumHolds_iff_sum hlen] at hc
  have hit : i < (f.take 29).length := by rw [List.length_take]; omega
  rw [checksumHolds_iff_sum (by rwa [List.length_set]), List.take_set, List.sum_set', hc, dif_pos hit, List.getElem_take,
    add_eq_left, neg_add_eq_zero]
  exact hne.symm

/-- Settles O9: the flip changes one byte, and so the sum, but not the length. -/
theorem everySingleBitFlipIsDetected : Obligations.EverySingleBitFlipIsDetected := by
  intro f s r i k b hdec hi hk hb
  obtain ⟨hlen, hc⟩ := decodeFrame_ok_iff.1 ⟨r, exec_dec_eq_iff.1 hdec⟩
  exact exec_dec_eq_iff.2 (decodeFrame_of_mismatch (by rwa [List.length_set])
    (not_checksumHolds_set hlen hc hi hb (xor_bit_ne hk)))

/-- Settles O12: the byte is what is missing from the sum. -/
theorem everyPayloadHasOneChecksumByte : Obligations.EveryPayloadHasOneChecksumByte := by
  intro g s hg
  have hiff (c : Byte) :
      (∃ r, exec (.dec (g ++ [c])) s = .next { s with result := .decode (.ok r) }) ↔ c = 64#8 - g.sum := by
    have hlen : (g ++ [c]).length = 29 := by rw [List.length_append, hg, List.length_singleton]
    simp only [exec_dec_eq_iff]
    rw [decodeFrame_ok_iff, checksumHolds_iff_sum hlen.ge, List.take_of_length_le hlen.le, List.sum_append,
      List.sum_singleton, eq_sub_iff_add_eq']
    exact and_iff_right hlen.ge
  simp only [hiff]
  exact existsUnique_eq

/-! ## Long frames -/

/-- A group within the first `n` bytes reads the same without the bytes after them. -/
theorem memRead3_take (f : RawFrame) (o n : Nat) (h : o + 3 ≤ (f.take n).length) :
    memRead3 (f.take n) o h = memRead3 f o (h.trans (List.length_take_le' n f)) := by
  simp [memRead3]

/-- The record lies within the first 29 bytes. -/
theorem extractRecord_take (f : RawFrame) (h : Config.frameLen ≤ (f.take 29).length) :
    extractRecord (f.take 29) h = extractRecord f (h.trans (List.length_take_le' 29 f)) := by
  simp [extractRecord, extractPitch, extractYaw, extractRoll, extractPosz, extractPosx, extractPosy, extractZoom,
    extractFocus, memRead3_take]

/-- Settles O11: length, checksum and record are those of the first 29 bytes. -/
theorem longFramesDecodeByTheirFirst29Bytes : Obligations.LongFramesDecodeByTheirFirst29Bytes := by
  intro f _ hlong
  have htake : 29 ≤ (f.take 29).length := by rw [List.length_take]; omega
  have hiff : ChecksumHolds (f.take 29) ↔ ChecksumHolds f := by
    rw [checksumHolds_iff_sum htake, checksumHolds_iff_sum hlong.le, List.take_take, Nat.min_self]
  refine exec_dec_eq_iff.2 ?_
  by_cases hc : ChecksumHolds f
  · rw [decodeFrame_of_checksum hlong.le hc, decodeFrame_of_checksum htake (hiff.2 hc), extractRecord_take]
  · rw [decodeFrame_of_mismatch hlong.le hc, decodeFrame_of_mismatch htake (mt hiff.1 hc)]

end Machine
end Sys2Proof

/-! SUPPORT. The PacingBuffer: what ENQ and TRYREL do under each guard (`enqueue_of_room`, `enqueue_of_dropNewest`,
`enqueue_of_dropOldest`, `tryRelease_of_hold`, `tryRelease_of_release`), what one operation does to the pacing state
(`PacedStep`, `exec_paced`), the gate's latch as a state (`State.latched`), and the ten statements of pacing settled from
them. -/

namespace Sys2Proof
namespace Machine

/-! ## The rate lock -/

/-- The rate lock's test fails exactly when a period has elapsed (R167). -/
theorem withinPeriod_eq_false_iff (c : Configuration) (last now : Timestamp) :
    withinPeriod c last now = false ↔ PeriodElapsed c last now := by
  simp [withinPeriod, PeriodElapsed]

/-- The rate lock lets a release through when none came before, or a period has elapsed since the last (R167, R172). -/
theorem held_eq_false_iff (s : State) (now : Timestamp) :
    s.held now = false ↔ (s.lastValid = true → PeriodElapsed s.cfg s.lastSend now) := by
  rw [State.held, Bool.and_eq_false_imp, withinPeriod_eq_false_iff]

/-- Settles O29: a multiple of RATE_NUM is below a bound exactly when the factor is below the quotient rounded up. -/
theorem rateTestAgreesWithPeriod : Obligations.RateTestAgreesWithPeriod := by
  intro c last now hnum
  have hceil (e k : Nat) : e * c.rateNum < k ↔ e < (k + c.rateNum - 1) / c.rateNum := by
    rw [← Nat.ceilDiv_eq_add_pred_div, ← not_le, ← not_le, ceilDiv_le_iff_le_mul hnum, mul_comm]
  simp [withinPeriod, hceil]

/-! ## ENQ -/

/-- ENQ of a frame within MAX_FRAME_LEN completes. -/
theorem exec_enq {s : State} {f : RawFrame} (hacc : s.accepts f = true) :
    exec (.enq f) s = .next { (s.enqueue f).2 with result := .enqueue (s.enqueue f).1 } := if_pos hacc

/-- An operation that completes with an arriving frame has found it within MAX_FRAME_LEN (R231). -/
theorem accepts_of_arriving {i : Instr} {s t : State} {f : RawFrame} (h : exec i s = .next t)
    (harr : i.arriving = some f) : s.accepts f = true := by
  cases exec_effect h with
  | quiet _ hnone => rw [hnone] at harr; cases harr
  | enqueued hacc | relayedHeld hacc => cases harr; exact hacc
  | relayedChecked hacc hi => rcases hi with rfl | ⟨rfl, _⟩ <;> cases harr <;> exact hacc
  | checked hi => rcases hi with rfl | ⟨rfl, _⟩ <;> cases harr
  | constructed => cases harr

/-- Below QUEUE_CAP, ENQ appends (R161). -/
theorem enqueue_of_room {s : State} (hroom : s.full = false) (f : RawFrame) :
    s.enqueue f = (.noDrop, { s with queue := s.queue ++ [f] }) := by simp [State.enqueue, hroom]

/-- At QUEUE_CAP, DROP_NEWEST discards the arriving frame (R162), and so does ENQ with no head to drop (log 22). -/
theorem enqueue_of_dropNewest {s : State} (hfull : s.full = true)
    (hdrop : s.cfg.ovfPolicy = .dropNewest ∨ s.queue = []) (f : RawFrame) : s.enqueue f = (.dropped .newest f, s) := by
  rcases enqueue_cases s f with ⟨hroom, _⟩ | ⟨_, _, e⟩ | ⟨_, hpol, d, rest, hq, _⟩
  · cases hroom.symm.trans hfull
  · exact e
  · simp [hpol, hq] at hdrop

/-- At QUEUE_CAP, DROP_OLDEST discards the head and appends (R163). -/
theorem enqueue_of_dropOldest {s : State} {d : RawFrame} {rest : List RawFrame} (hfull : s.full = true)
    (hpol : s.cfg.ovfPolicy = .dropOldest) (hq : s.queue = d :: rest) (f : RawFrame) :
    s.enqueue f = (.dropped .oldest d, { s with queue := rest ++ [f] }) := by
  simp [State.enqueue, State.overflow, hfull, hpol, hq]

/-- Settles O27: FULL is what the three cases are told apart by. -/
theorem enqAppendsOrDropsByPolicy : Obligations.EnqAppendsOrDropsByPolicy := by
  intro f s hlen
  rw [exec_enq (decide_eq_true hlen), ← full_iff, ne_eq, ← full_iff, Bool.not_eq_true]
  refine ⟨fun hroom => ?_, fun hfull hpol => ?_, fun hfull d rest hpol hq => ?_⟩
  · rw [enqueue_of_room hroom]
  · rw [enqueue_of_dropNewest hfull (.inl hpol)]
  · rw [enqueue_of_dropOldest hfull hpol hq]

/-- Settles O40: ENQ changes QUEUE only, by one of three cases. -/
theorem enqFrame : Obligations.EnqFrame := by
  intro f s t h
  rw [exec_enq (accepts_of_arriving h rfl)] at h
  cases h
  refine ⟨enqueue_warm s f, enqueue_lastSend s f, enqueue_lastValid s f, enqueue_cfg s f, enqueue_inputs s f, _, rfl, ?_⟩
  rcases enqueue_cases s f with ⟨_, e⟩ | ⟨_, _, e⟩ | ⟨_, _, d, rest, hq, e⟩ <;> rw [e]
  · simp
  · simp
  · simp [hq]

/-! ## TRYREL -/

/-- With the gate shut, nothing queued or the rate lock on, TRYREL releases nothing (R169). -/
theorem tryRelease_of_hold {s : State} {now : Timestamp}
    (hhold : s.warmAfterGate = false ∨ s.queue = [] ∨ s.held now = true) :
    s.tryRelease now = (none, { s with warm := s.warmAfterGate }) := by
  rcases tryRelease_cases s now with ⟨_, e⟩ | ⟨hgate, hfree, f, rest, hq, _⟩
  · exact e
  · simp [hgate, hfree, hq] at hhold

/-- With the gate open, a frame queued and the rate lock off, TRYREL releases the head (R168, R169). -/
theorem tryRelease_of_release {s : State} {now : Timestamp} {f : RawFrame} {rest : List RawFrame}
    (hgate : s.warmAfterGate = true) (hq : s.queue = f :: rest) (hfree : s.held now = false) :
    s.tryRelease now = (some f, { s with warm := true, queue := rest, lastSend := now, lastValid := true }) := by
  rcases tryRelease_cases s now with ⟨hhold, _⟩ | ⟨_, _, g, kept, hq', e⟩
  · simp [hgate, hfree, hq] at hhold
  · cases hq.symm.trans hq'
    exact e

/-- TRYREL always completes. -/
theorem exec_tryrel (now : Timestamp) (s : State) :
    exec (.tryrel now) s = .next { (s.tryRelease now).2 with result := .release (s.tryRelease now).1 } := rfl

/-- The gate is open once WARM is set or COUNT has reached the threshold (R165). -/
theorem warmAfterGate_iff (s : State) :
    s.warmAfterGate = true ↔ s.warm = true ∨ s.cfg.framesToBuffer ≤ s.count := by simp [State.warmAfterGate]

/-- The gate is shut while WARM is clear and COUNT is below the threshold (R165). -/
theorem warmAfterGate_eq_false_iff (s : State) :
    s.warmAfterGate = false ↔ s.warm = false ∧ s.count < s.cfg.framesToBuffer := by simp [State.warmAfterGate]

/-- Settles O28: the guards of TRYREL decide between holding and releasing. -/
theorem tryrelGatesThenReleasesTheHead : Obligations.TryrelGatesThenReleasesTheHead := by
  intro now s
  rw [exec_tryrel]
  refine ⟨fun hwarm hbelow => ?_, fun hopen => ?_⟩
  · have hshut : s.warmAfterGate = false := (warmAfterGate_eq_false_iff s).2 ⟨hwarm, hbelow⟩
    rw [tryRelease_of_hold (.inl hshut), hshut, ← hwarm]
  · have hgate : s.warmAfterGate = true := (warmAfterGate_iff s).2 hopen
    refine ⟨fun hq => ?_, fun hvalid hsoon => ?_, fun g rest hq hdue => ?_⟩
    · rw [tryRelease_of_hold (.inr (.inl hq)), hgate]
    · have hheld : s.held now = true := by
        rw [← Bool.not_eq_false, held_eq_false_iff]
        exact fun hdue => hsoon (hdue hvalid)
      rw [tryRelease_of_hold (.inr (.inr hheld)), hgate]
    · rw [tryRelease_of_release hgate hq ((held_eq_false_iff s now).2 hdue)]

/-- TRYREL and TICK, when they complete, have done nothing or have made one release check. -/
theorem exec_check_cases {now : Timestamp} {s t : State}
    (h : exec (.tryrel now) s = .next t ∨ exec (.tick now) s = .next t) :
    t = { s with result := .nothing }
      ∨ t = { (s.tryRelease now).2 with result := .release (s.tryRelease now).1 } := by
  rcases h with h | h
  · cases h; exact .inr rfl
  · simp only [exec, execTick] at h
    split at h <;> cases h
    · exact .inl rfl
    · exact .inr rfl

/-- Settles O41: a TICK that ARRIVAL ignores only clears the result, and a release check holds or releases the head. -/
theorem releaseCheckFrame : Obligations.ReleaseCheckFrame := by
  intro now s t h
  rcases exec_check_cases h with rfl | rfl
  · exact ⟨rfl, rfl, fun _ => ⟨rfl, rfl, rfl⟩, fun _ hrel => nomatch hrel⟩
  · rcases tryRelease_cases s now with ⟨_, e⟩ | ⟨_, _, f, rest, hq, e⟩ <;> rw [e]
    · exact ⟨rfl, rfl, fun _ => ⟨rfl, rfl, rfl⟩, fun _ hrel => nomatch hrel⟩
    · refine ⟨rfl, rfl, fun hrel => ?_, fun g hrel => ?_⟩ <;> cases hrel
      exact ⟨hq, rfl, rfl, rfl⟩

/-- Settles O30: what an operation releases and leaves queued is the queue that its ENQ, if any, has left. -/
theorem atMostOneReleasePerCheck : Obligations.AtMostOneReleasePerCheck := by
  refine fun now f s t => ⟨?_, ?_⟩
  · rintro (h | h) <;> exact (exec_queue h rfl).symm
  · rintro (h | h) <;> exact ⟨_, exec_enq (accepts_of_arriving h rfl), (exec_queue h rfl).symm⟩

/-! ## The invariant under ARRIVAL -/

/-- With a legal QUEUE_CAP, ENQ leaves a frame queued: a full queue is not empty. -/
theorem enqueue_queue_ne_nil {s : State} (hlegal : s.cfg.legal = true) (f : RawFrame) : (s.enqueue f).2.queue ≠ [] := by
  have hfull_ne_nil : s.full = true → s.queue ≠ [] := by
    intro hfull hq
    simp only [Configuration.legal, Bool.and_eq_true] at hlegal
    obtain ⟨⟨⟨_, hone⟩, _⟩, _⟩ := hlegal
    rw [(full_iff s).1 hfull, hq] at hone
    cases hone
  rcases enqueue_cases s f with ⟨_, e⟩ | ⟨hfull, _, e⟩ | ⟨_, _, d, rest, _, e⟩ <;> rw [e]
  · simp
  · exact hfull_ne_nil hfull
  · simp

/-- A release check on a queue that is not empty releases at the moment the gate opens, if the latches agree before. -/
theorem tryRelease_arrivalInv {s : State} (now : Timestamp) (hlatches : s.warm = s.lastValid) (hq : s.queue ≠ []) :
    (s.tryRelease now).2.ArrivalInv := by
  intro _
  rcases tryRelease_cases s now with ⟨hhold, e⟩ | ⟨_, _, f, rest, _, e⟩ <;> rw [e]
  · rcases hhold with hshut | hnil | hheld
    · obtain ⟨hwarm, hbelow⟩ := (warmAfterGate_eq_false_iff s).1 hshut
      exact ⟨hshut.trans (hwarm.symm.trans hlatches), fun _ => .inr hbelow⟩
    · exact absurd hnil hq
    · have hvalid : s.lastValid = true := (Bool.and_eq_true_iff.1 hheld).1
      have hgate := warmAfterGate_of_warm (hlatches.trans hvalid)
      exact ⟨hgate.trans hvalid.symm, fun hshut => nomatch hgate.symm.trans hshut⟩
  · exact ⟨rfl, fun hshut => nomatch hshut⟩

/-- Under ARRIVAL an event that enqueues makes a release check at once, and no other event makes one; so every event keeps
ArrivalInv. -/
theorem event_keeps_arrivalInv {i : Instr} {s t : State} (hi : i.row ∈ Row.events) (hinv : s.Inv) (harr : s.ArrivalInv)
    (h : exec i s = .next t) : t.ArrivalInv := by
  have hsrc : i.isReset = false → t.cfg.tickSource = .arrival → s.cfg.tickSource = .arrival := by
    intro hreset hsrc
    rwa [← exec_cfg h hreset]
  cases exec_effect h with
  | quiet => exact harr
  | enqueued => simp [Instr.row] at hi
  | relayedHeld _ hext => exact fun harrival => nomatch hext.symm.trans (hsrc rfl harrival)
  | @relayedChecked _ _ now f _ hrx =>
    intro harrival
    have hreset : i.isReset = false := by rcases hrx with rfl | ⟨rfl, _⟩ <;> rfl
    obtain ⟨hlatches, _⟩ := harr (hsrc hreset harrival)
    obtain ⟨hlegal, _⟩ := hinv
    rw [← enqueue_warm s f, ← enqueue_lastValid s f] at hlatches
    exact tryRelease_arrivalInv now hlatches (enqueue_queue_ne_nil hlegal f) harrival
  | checked hcheck =>
    rcases hcheck with rfl | ⟨rfl, hext⟩
    · simp [Instr.row] at hi
    · exact fun harrival => nomatch hext.symm.trans (hsrc rfl harrival)
  | constructed => exact construct_arrivalInv s _

/-- Settles O47: a step is a fetch, which the invariants do not notice, and one event. -/
theorem stepKeepsTheArrivalInvariant : Obligations.StepKeepsTheArrivalInvariant := by
  intro s t hinv harr hstep
  obtain ⟨i, hfetch, hexec⟩ := step_cases hstep
  exact event_keeps_arrivalInv (fetch_row hfetch) (inv_setInputs s.inputs.tail hinv) harr hexec

/-! ## The pacing of a run -/

/-- `PacedStep s t`: from `s` to `t` nothing is released and the last release stays the same, or a frame is released through
the open gate, a period after the last release. -/
def PacedStep (s t : State) : Prop :=
  (t.result.released = none ∧ t.lastValid = s.lastValid ∧ t.lastSend = s.lastSend)
  ∨ (t.result.released.isSome = true ∧ t.warm = true ∧ t.lastValid = true
      ∧ (s.lastValid = true → PeriodElapsed s.cfg s.lastSend t.lastSend))

/-- A release check in a state `u` that differs from `s` at most in QUEUE is paced. -/
theorem paced_of_tryRelease {s u : State} (hu : u = { s with queue := u.queue }) (now : Timestamp) {v : Result}
    (hrel : v.released = (u.tryRelease now).1) : PacedStep s { (u.tryRelease now).2 with result := v } := by
  rcases tryRelease_cases u now with ⟨_, e⟩ | ⟨_, hfree, f, rest, _, e⟩ <;> rw [e] at hrel ⊢
  · have hvalid : u.lastValid = s.lastValid := by rw [hu]
    have hsend : u.lastSend = s.lastSend := by rw [hu]
    exact .inl ⟨hrel, hvalid, hsend⟩
  · have hdue := (held_eq_false_iff u now).1 hfree
    rw [hu] at hdue
    exact .inr ⟨by rw [hrel]; rfl, rfl, rfl, hdue⟩

/-- Every operation but RESET is paced. -/
theorem exec_paced {i : Instr} {s t : State} (h : exec i s = .next t) (hi : i.isReset = false) : PacedStep s t := by
  cases exec_effect h with
  | quiet _ _ hrel => exact .inl ⟨hrel, rfl, rfl⟩
  | enqueued | relayedHeld => exact .inl ⟨rfl, enqueue_lastValid s _, enqueue_lastSend s _⟩
  | relayedChecked => exact paced_of_tryRelease (enqueue_frame s _) _ rfl
  | checked => exact paced_of_tryRelease rfl _ rfl
  | constructed => cases hi

/-- The time of the last release, if there was one. -/
def State.lastRelease (s : State) : List Timestamp := if s.lastValid then [s.lastSend] else []

/-- A step that releases nothing adds no release time. -/
theorem releaseTimes_cons_of_none (i : Instr) {t : State} (tr : List (Instr × State)) (h : t.result.released = none) :
    releaseTimes ((i, t) :: tr) = releaseTimes tr := by simp [releaseTimes, h]

/-- A step that releases adds the LAST_SEND it has written. -/
theorem releaseTimes_cons_of_isSome (i : Instr) {t : State} (tr : List (Instr × State))
    (h : t.result.released.isSome = true) : releaseTimes ((i, t) :: tr) = t.lastSend :: releaseTimes tr := by
  obtain ⟨f, hf⟩ := Option.isSome_iff_exists.1 h
  simp [releaseTimes, hf]

/-- Over a run without RESET, each release comes a period after the one before it (R174). -/
theorem run_releases_isChain {s u : State} {tr : List (Instr × State)} (h : Run s tr u) (hreset : NoReset tr) :
    (s.lastRelease ++ releaseTimes tr).IsChain (PeriodElapsed s.cfg) := by
  induction h with
  | stop s => unfold State.lastRelease; split <;> simp [releaseTimes]
  | @next s t u i tr _ hexec _ ih =>
    obtain ⟨hi, htail⟩ := List.forall_mem_cons.mp hreset
    have hchain := ih htail
    rw [exec_cfg hexec hi] at hchain
    rcases exec_paced hexec hi with ⟨hrel, hvalid, hsend⟩ | ⟨hrel, _, hvalid, hdue⟩
    · rw [State.lastRelease, hvalid, hsend] at hchain
      rw [releaseTimes_cons_of_none i tr hrel]
      exact hchain
    · rw [State.lastRelease, if_pos hvalid] at hchain
      rw [releaseTimes_cons_of_isSome i tr hrel, State.lastRelease]
      split
      next hbefore => exact .cons_cons (hdue hbefore) hchain
      next => exact hchain

/-- Settles O50. -/
theorem consecutiveReleasesAreAPeriodApart : Obligations.ConsecutiveReleasesAreAPeriodApart :=
  fun k s hreset => run_releases_isChain (run_trace k s) hreset

/-- An operation that finds the gate shut, and brings COUNT to less than the threshold, leaves it shut and releases
nothing. -/
theorem exec_of_below {i : Instr} {s t : State} (h : exec i s = .next t) (hi : i.isReset = false)
    (hwarm : s.warm = false) (hbelow : s.count + i.arriving.toList.length < s.cfg.framesToBuffer) :
    t.warm = false ∧ t.result.released = none ∧ t.count ≤ s.count + i.arriving.toList.length := by
  have hlen := (exec_sublist h).length_le
  simp only [List.length_append] at hlen
  obtain ⟨_, _, hopens, _⟩ := latchesAreSetByReleaseChecksOnly i s t h hi
  have hwarm' : t.warm = false := by
    by_contra hopen
    obtain ⟨_, hmet⟩ := hopens hwarm (Bool.eq_true_of_not_eq_false hopen)
    simp only [State.count] at hbelow
    omega
  refine ⟨hwarm', ?_, by simp only [State.count]; omega⟩
  rcases exec_paced h hi with ⟨hrel, _⟩ | ⟨_, hopen, _⟩
  · exact hrel
  · exact nomatch hopen.symm.trans hwarm'

/-- A run without RESET from a shut gate releases nothing while the frames queued and presented are fewer than the threshold
(R175). -/
theorem run_releases_nothing {s u : State} {tr : List (Instr × State)} (h : Run s tr u) (hwarm : s.warm = false)
    (hreset : NoReset tr) (hbelow : s.count + (presentedFrames tr).length < s.cfg.framesToBuffer) :
    releasedFrames tr = [] := by
  induction h with
  | stop s => rfl
  | @next s t u i tr _ hexec _ ih =>
    obtain ⟨hi, htail⟩ := List.forall_mem_cons.mp hreset
    rw [presentedFrames_cons, List.length_append] at hbelow
    have hstep : s.count + i.arriving.toList.length < s.cfg.framesToBuffer := by omega
    obtain ⟨hwarm', hrel, hcount⟩ := exec_of_below (s := { s with inputs := s.inputs.tail }) hexec hi hwarm hstep
    change t.count ≤ s.count + i.arriving.toList.length at hcount
    have hbelow' : t.count + (presentedFrames tr).length < t.cfg.framesToBuffer := by
      rw [exec_cfg hexec hi]
      dsimp only
      omega
    rw [releasedFrames_cons, hrel, ih hwarm' htail hbelow', Option.toList_none, List.nil_append]

/-- Settles O51. -/
theorem nothingIsReleasedBeforeTheThreshold : Obligations.NothingIsReleasedBeforeTheThreshold :=
  fun k s hwarm hreset hbelow => run_releases_nothing (run_trace k s) hwarm hreset hbelow

/-! ## The place of the latch -/

/-- The state with WARM as the gate would leave it. -/
def State.latched (s : State) : State := { s with warm := s.warmAfterGate }

/-- A state with WARM set is latched. -/
theorem latched_of_warm {s : State} (h : s.warm = true) : s.latched = s := by
  rw [State.latched, warmAfterGate_of_warm h, ← h]

/-- Latching twice is latching once. -/
theorem latched_latched (s : State) : s.latched.latched = s.latched := by
  have hgate : s.latched.warmAfterGate = s.warmAfterGate := by
    change (s.warmAfterGate || decide (s.cfg.framesToBuffer ≤ s.count)) = s.warmAfterGate
    rw [State.warmAfterGate, Bool.or_assoc, Bool.or_self]
  rw [State.latched, hgate]
  rfl

/-- TRYREL of this hardware is TRYREL of the other design on the latched state. -/
theorem tryRelease_eq_unlatched (s : State) (now : Timestamp) :
    s.tryRelease now = s.latched.tryReleaseUnlatched now := rfl

/-- TRYREL of this hardware sees of WARM only what the gate makes of it. -/
theorem tryRelease_congr_latched {s t : State} (h : s.latched = t.latched) (now : Timestamp) :
    s.tryRelease now = t.tryRelease now := by rw [tryRelease_eq_unlatched, h, ← tryRelease_eq_unlatched]

/-- With nothing queued, TRYREL of the other design releases nothing and changes nothing. -/
theorem tryReleaseUnlatched_of_nil {s : State} (hq : s.queue = []) (now : Timestamp) :
    s.tryReleaseUnlatched now = (none, s) := by simp [State.tryReleaseUnlatched, (empty_iff s).2 hq]

/-- TRYREL leaves a latched state: once a frame is released, WARM is set. -/
theorem tryRelease_latched (s : State) (now : Timestamp) : (s.tryRelease now).2.latched = (s.tryRelease now).2 := by
  rcases tryRelease_cases s now with ⟨_, e⟩ | ⟨_, _, f, rest, _, e⟩ <;> rw [e]
  · exact latched_latched s
  · exact latched_of_warm rfl

/-- ENQ of the other design latches what ENQ leaves. -/
theorem enqueueLatching_eq (s : State) (f : RawFrame) : s.enqueueLatching f = (s.enqueue f).2.latched := rfl

/-- ENQ never lowers COUNT. -/
theorem count_le_enqueue (s : State) (f : RawFrame) : s.count ≤ (s.enqueue f).2.count := by
  rcases enqueue_cases s f with ⟨_, e⟩ | ⟨_, _, e⟩ | ⟨_, _, d, rest, hq, e⟩ <;> rw [e]
  · simp [State.count]
  · simp [State.count, hq]

/-- ENQ does not depend on WARM (R161). -/
theorem enqueue_setWarm (s : State) (w : Bool) (f : RawFrame) :
    ({ s with warm := w } : State).enqueue f = ((s.enqueue f).1, { (s.enqueue f).2 with warm := w }) := by
  rcases enqueue_cases s f with ⟨hroom, e⟩ | ⟨hfull, hdrop, e⟩ | ⟨hfull, hpol, d, rest, hq, e⟩ <;> rw [e]
  · exact enqueue_of_room (s := { s with warm := w }) hroom f
  · exact enqueue_of_dropNewest (s := { s with warm := w }) hfull hdrop f
  · exact enqueue_of_dropOldest (s := { s with warm := w }) hfull hpol hq f

/-- Latching before ENQ adds nothing to latching after it. -/
theorem latched_enqueue (s : State) (f : RawFrame) : (s.latched.enqueue f).2.latched = (s.enqueue f).2.latched := by
  have hgate : (s.latched.enqueue f).2.warmAfterGate = (s.enqueue f).2.warmAfterGate := by
    rw [State.latched, enqueue_setWarm, Bool.eq_iff_iff, warmAfterGate_iff, warmAfterGate_iff, warmAfterGate_iff,
      enqueue_warm, enqueue_cfg]
    exact or_assoc.trans (or_congr_right (or_iff_right_of_imp fun hmet => hmet.trans (count_le_enqueue s f)))
  rw [State.latched, hgate, State.latched, State.latched, enqueue_setWarm]

/-- The two designs have come to the same but for WARM: the gate would leave both the same, and in the other design WARM is
where the gate would leave it whenever a frame is queued. -/
def LatchSim (s t : State) : Prop := s.latched = t.latched ∧ (t.queue = [] ∨ t.latched = t)

/-- ENQ of both designs keeps `LatchSim`. -/
theorem latchSim_enqueue {s t : State} (h : LatchSim s t) (f : RawFrame) :
    LatchSim (s.enqueue f).2 (t.enqueueLatching f) := by
  obtain ⟨hlatched, _⟩ := h
  rw [enqueueLatching_eq]
  refine ⟨?_, .inr (latched_latched _)⟩
  rw [latched_latched, ← latched_enqueue s, hlatched, latched_enqueue t]

/-- TRYREL of both designs releases the same and keeps `LatchSim`. -/
theorem latchSim_tryRelease {s t : State} (h : LatchSim s t) (now : Timestamp) :
    (s.tryRelease now).1 = (t.tryReleaseUnlatched now).1
      ∧ LatchSim (s.tryRelease now).2 (t.tryReleaseUnlatched now).2 := by
  obtain ⟨hlatched, hother⟩ := h
  rw [tryRelease_congr_latched hlatched]
  rcases hother with hnil | hwarm
  · rw [tryRelease_of_hold (.inr (.inl hnil)), tryReleaseUnlatched_of_nil hnil]
    exact ⟨rfl, latched_latched t, .inl hnil⟩
  · have hsame : t.tryReleaseUnlatched now = t.tryRelease now := by rw [tryRelease_eq_unlatched, hwarm]
    rw [hsame]
    exact ⟨rfl, rfl, .inr (tryRelease_latched t now)⟩

/-- States related by `LatchSim` release the same in their two designs. -/
theorem bufferReleases_eq_latchingReleases {s t : State} (h : LatchSim s t) (ops : List BufferOp) :
    bufferReleases s ops = latchingReleases t ops := by
  induction ops generalizing s t with
  | nil => rfl
  | cons op rest ih =>
    cases op with
    | enq f => exact ih (latchSim_enqueue h f)
    | tryrel now =>
      obtain ⟨hrel, hsim⟩ := latchSim_tryRelease h now
      rw [bufferReleases, latchingReleases, hrel, ih hsim]

/-- Settles O56: a constructed block has an empty queue, where both designs start alike. -/
theorem latchPlacementCannotBeObserved : Obligations.LatchPlacementCannotBeObserved :=
  fun s cfg ops _ => bufferReleases_eq_latchingReleases ⟨rfl, .inl (construct_queue s cfg)⟩ ops

end Machine
end Sys2Proof

/-! SUPPORT. The relay events: what each leaves (`exec_rx_of_arrival`, `exec_rx_of_external`, `exec_rxtick_of_accepts`,
`exec_tick_of_external`, `exec_reset_of_legal`), the fields that the PacingBuffer never reads (`State.aside`), two states
that pace alike (`PacesAlike`), and the thirteen statements of the relay events settled from them. -/

namespace Sys2Proof
namespace Machine

/-! ## A step with a port sample -/

/-- A step runs the operation that its port sample decodes to, when the configuration inputs are as held or `rst` is
set. -/
theorem step_of_decode {s : State} {p : PortSample} {rest : List PortSample} {i : Instr} (hin : s.inputs = p :: rest)
    (hdec : decode p = .ok i) (hcfg : p.rst = true ∨ p.cfg = s.cfg) : step s = exec i { s with inputs := rest } := by
  have hread : readSample s.cfg p = .ok i := by
    simp only [readSample, hdec]
    exact if_pos (by simpa using hcfg)
  simp only [step, State.fetch, hin, hread]

/-- With nothing at the ports a step is IDLE (log 2). -/
theorem step_of_nil {s : State} (hin : s.inputs = []) : step s = exec .idle s := by simp only [step, State.fetch, hin]

/-- Settles O22. -/
theorem stepRunsTheDecodedEvent : Obligations.StepRunsTheDecodedEvent :=
  ⟨fun _ _ _ _ => step_of_decode, fun _ => step_of_nil⟩

/-- The configuration inputs of a table word's sample are as held. -/
theorem tableSample_cfg (held : Configuration) (nbits w : Nat) : (tableSample held nbits w).cfg = held := by
  unfold tableSample
  split <;> rfl

/-- Settles O25: a placed word is a sample that keeps the configuration. -/
theorem placedWordRunsNext : Obligations.PlacedWordRunsNext :=
  fun s nbits w _ hdec =>
    step_of_decode (s := s.withFetchWord nbits w) rfl hdec (.inr (tableSample_cfg s.cfg nbits w))

/-! ## What each event leaves -/

/-- IDLE only clears the result (R191). -/
theorem exec_idle (s : State) : exec .idle s = .next { s with result := .nothing } := rfl

/-- Under EXTERNAL, TICK is one release check (R194). -/
theorem exec_tick_of_external {s : State} (hsrc : s.cfg.tickSource = .external) (now : Timestamp) :
    exec (.tick now) s = .next { (s.tryRelease now).2 with result := .release (s.tryRelease now).1 } := by
  simp only [exec, execTick, hsrc]

/-- RXTICK of a frame within MAX_FRAME_LEN decodes, enqueues and checks (R195). -/
theorem exec_rxtick_of_accepts {s : State} {f : RawFrame} (hacc : s.accepts f = true) (now : Timestamp) :
    exec (.rxtick now f) s = .next (s.relayChecked now f) := if_pos hacc

/-- Under ARRIVAL so does RX (R192). -/
theorem exec_rx_of_arrival {s : State} {f : RawFrame} (hsrc : s.cfg.tickSource = .arrival) (hacc : s.accepts f = true)
    (now : Timestamp) : exec (.rx now f) s = .next (s.relayChecked now f) := by
  rw [← exec_rxtick_of_arrival hsrc, exec_rxtick_of_accepts hacc]

/-- Under EXTERNAL, RX decodes and enqueues (R193). -/
theorem exec_rx_of_external {s : State} {f : RawFrame} (hsrc : s.cfg.tickSource = .external) (hacc : s.accepts f = true)
    (now : Timestamp) : exec (.rx now f) s = .next (s.relayHeld f) := by
  simp only [exec, execRx, hacc, hsrc, if_true]

/-- A frame longer than MAX_FRAME_LEN completes no operation that it arrives in (R231). -/
theorem exec_ne_next_of_not_accepts {i : Instr} {s : State} {f : RawFrame} (harr : i.arriving = some f)
    (hacc : s.accepts f = false) (t : State) : exec i s ≠ .next t := fun h =>
  nomatch (accepts_of_arriving h harr).symm.trans hacc

/-- The legal configurations are those that meet R13, with the TS_W of R40. -/
theorem legal_iff_constraints (c : Configuration) : c.legal = true ↔ Constraints c := by
  have hcap : c.queueCap.holds 1 = true ∧ c.queueCap.holds c.framesToBuffer = true
      ↔ ∀ n, c.queueCap = .finite n → 1 ≤ n ∧ c.framesToBuffer ≤ n := by
    cases c.queueCap <;> simp [Capacity.holds]
  rw [Constraints, ← hcap]
  simp [Configuration.legal, and_assoc]

/-- RESET with a legal configuration constructs the block (R196). -/
theorem exec_reset_of_legal {cfg : Configuration} (hlegal : cfg.legal = true) (s : State) :
    exec (.reset cfg) s = .next { s.construct cfg with result := .nothing } := if_pos hlegal

/-- RESET with any other configuration is refused (R246). -/
theorem exec_reset_of_illegal {cfg : Configuration} (hillegal : ¬ cfg.legal = true) (s : State) :
    exec (.reset cfg) s = .refused .illegalConfiguration := if_neg hillegal

/-- Settles O36. -/
theorem resetConstructsTheBlock : Obligations.ResetConstructsTheBlock :=
  ⟨fun cfg s hmet => exec_reset_of_legal ((legal_iff_constraints cfg).2 hmet) s,
    fun cfg s hbroken => exec_reset_of_illegal (mt (legal_iff_constraints cfg).1 hbroken) s, fun _ => decode_of_rst⟩

/-- Settles O34. -/
theorem tickIsAReleaseCheck : Obligations.TickIsAReleaseCheck :=
  fun now s => ⟨fun hsrc => ⟨_, exec_tryrel now s, exec_tick_of_external hsrc now⟩,
    fun hsrc => exec_tick_of_arrival hsrc now⟩

/-! ## What the PacingBuffer does not read -/

/-- The state with new values in the fields that ENQ and TRYREL do not read: TICK_SOURCE and the model's own two. -/
def State.aside (s : State) (src : TickSource) (ps : List PortSample) (v : Result) : State :=
  { s with cfg := { s.cfg with tickSource := src }, inputs := ps, result := v }

section
variable (s : State) (src : TickSource) (ps : List PortSample) (v : Result)

/-- ENQ neither reads nor writes the fields set aside. -/
theorem enqueue_aside (f : RawFrame) :
    (s.aside src ps v).enqueue f = ((s.enqueue f).1, (s.enqueue f).2.aside src ps v) := by
  rcases enqueue_cases s f with ⟨hroom, e⟩ | ⟨hfull, hdrop, e⟩ | ⟨hfull, hpol, d, rest, hq, e⟩ <;> rw [e]
  · exact enqueue_of_room (s := s.aside src ps v) hroom f
  · exact enqueue_of_dropNewest (s := s.aside src ps v) hfull hdrop f
  · exact enqueue_of_dropOldest (s := s.aside src ps v) hfull hpol hq f

/-- TRYREL neither reads nor writes the fields set aside. -/
theorem tryRelease_aside (now : Timestamp) :
    (s.aside src ps v).tryRelease now = ((s.tryRelease now).1, (s.tryRelease now).2.aside src ps v) := by
  rcases tryRelease_cases s now with ⟨hhold, e⟩ | ⟨hgate, hfree, f, rest, hq, e⟩ <;> rw [e]
  · exact tryRelease_of_hold (s := s.aside src ps v) hhold
  · exact tryRelease_of_release (s := s.aside src ps v) hgate hq hfree

/-- A relay iteration neither reads the fields set aside nor writes any of them but the result. -/
theorem relayChecked_aside (now : Timestamp) (f : RawFrame) :
    (s.aside src ps v).relayChecked now f
      = (s.relayChecked now f).aside src ps (s.relayChecked now f).result := by
  simp only [State.relayChecked, enqueue_aside, tryRelease_aside]
  rfl

/-- ENQ does not read the result of the operation before. -/
theorem enqueue_setResult (f : RawFrame) :
    ({ s with result := v } : State).enqueue f = ((s.enqueue f).1, { (s.enqueue f).2 with result := v }) := by
  refine (enqueue_aside s s.cfg.tickSource s.inputs v f).trans ?_
  rw [State.aside, enqueue_frame]

/-- TRYREL does not read the result of the operation before. -/
theorem tryRelease_setResult (now : Timestamp) :
    ({ s with result := v } : State).tryRelease now
      = ((s.tryRelease now).1, { (s.tryRelease now).2 with result := v }) := by
  obtain ⟨hcfg, hinputs, _⟩ := tryRelease_frame s now
  refine (tryRelease_aside s s.cfg.tickSource s.inputs v now).trans ?_
  rw [State.aside, ← hcfg, ← hinputs]

/-- No operation reads what the one before it returned (R200). -/
theorem exec_setResult (i : Instr) : exec i { s with result := v } = exec i s := by
  cases i with
  | idle | reset | dec | chk | xpitch | xyaw | xroll | xposz | xposx | xposy | xzoom | xfocus => rfl
  | rx now f =>
    simp only [exec, execRx, State.relayChecked, State.relayHeld, enqueue_setResult, tryRelease_setResult]
    rfl
  | tick now => simp only [exec, execTick, tryRelease_setResult]
  | rxtick now f =>
    simp only [exec, execRxtick, State.relayChecked, enqueue_setResult, tryRelease_setResult]
    rfl
  | enq f =>
    simp only [exec, execEnq, enqueue_setResult]
    rfl
  | tryrel now => simp only [exec, execTryrel, tryRelease_setResult]

end

/-- Settles O31: an IDLE leaves only a new result, which no operation reads. -/
theorem idleHasNoEffect : Obligations.IdleHasNoEffect := by
  refine fun s now => ⟨exec_idle s, fun hsrc => exec_tick_of_arrival hsrc now, rfl, fun i t hidle => ?_⟩
  cases hidle
  exact exec_setResult s .nothing i

/-! ## The arrival events -/

/-- An event that ends as a relay iteration is DEC, then ENQ, then TRYREL, and returns their three results. -/
theorem relayChecked_is_dec_enq_tryrel {i : Instr} {s : State} {now : Timestamp} {f : RawFrame}
    (hacc : s.accepts f = true) (h : exec i s = .next (s.relayChecked now f)) :
    ∃ (d : DecodeResult) (o : EnqResult) (r : Option RawFrame) (u v : State),
      exec (.dec f) s = .next { s with result := .decode d }
      ∧ exec (.enq f) s = .next u ∧ u.result = .enqueue o
      ∧ exec (.tryrel now) u = .next v ∧ v.result = .release r
      ∧ exec i s = .next { v with result := .relay d o r } := by
  refine ⟨_, _, _, _, _, exec_dec f s, exec_enq hacc, rfl, exec_tryrel now _, rfl, ?_⟩
  rw [h, tryRelease_setResult]
  rfl

/-- Settles O32. -/
theorem rxIsOneRelayIteration : Obligations.RxIsOneRelayIteration := by
  intro now f s hsrc hlen
  have hacc : s.accepts f = true := decide_eq_true hlen
  exact relayChecked_is_dec_enq_tryrel hacc (exec_rx_of_arrival hsrc hacc now)

/-- Settles O33. -/
theorem rxUnderExternalMakesNoReleaseCheck : Obligations.RxUnderExternalMakesNoReleaseCheck := by
  intro now f s hsrc hlen
  have hacc : s.accepts f = true := decide_eq_true hlen
  exact ⟨_, _, _, exec_dec f s, exec_enq hacc, rfl, enqueue_warm s f, enqueue_lastSend s f, enqueue_lastValid s f,
    exec_rx_of_external hsrc hacc now⟩

/-- Settles O35. -/
theorem rxtickEnqueuesBeforeTheCheck : Obligations.RxtickEnqueuesBeforeTheCheck := by
  intro now f s hlen
  have hacc : s.accepts f = true := decide_eq_true hlen
  exact ⟨relayChecked_is_dec_enq_tryrel hacc (exec_rxtick_of_accepts hacc now),
    fun hsrc => exec_rxtick_of_arrival hsrc now f⟩

/-- An RX or RXTICK that completes has decoded and enqueued its frame, and then made a release check or none. -/
theorem exec_relay_cases {s t : State} {now : Timestamp} {f : RawFrame}
    (h : exec (.rx now f) s = .next t ∨ exec (.rxtick now f) s = .next t) :
    s.accepts f = true ∧ (t = s.relayHeld f ∨ t = s.relayChecked now f) := by
  have hacc : s.accepts f = true := by rcases h with h | h <;> exact accepts_of_arriving h rfl
  refine ⟨hacc, ?_⟩
  rcases h with h | h
  · cases hsrc : s.cfg.tickSource with
    | arrival => rw [exec_rx_of_arrival hsrc hacc] at h; cases h; exact .inr rfl
    | external => rw [exec_rx_of_external hsrc hacc] at h; cases h; exact .inl rfl
  · rw [exec_rxtick_of_accepts hacc] at h; cases h; exact .inr rfl

/-- An RX or RXTICK that completes returns the results of DEC and ENQ, and a release or none. -/
theorem exec_relay_result {s t : State} {now : Timestamp} {f : RawFrame}
    (h : exec (.rx now f) s = .next t ∨ exec (.rxtick now f) s = .next t) :
    ∃ r, t.result = .relay (decodeFrame f) (s.enqueue f).1 r := by
  obtain ⟨_, rfl | rfl⟩ := exec_relay_cases h <;> exact ⟨_, rfl⟩

/-- Settles O16. -/
theorem outputsComeInOrder : Obligations.OutputsComeInOrder := by
  refine ⟨fun i s v => exec_setResult s v i, fun s t now f cfg => ⟨fun h => ?_, fun h => ?_, fun h => ?_⟩⟩
  · obtain ⟨hacc, _⟩ := exec_relay_cases h
    obtain ⟨r, hres⟩ := exec_relay_result h
    refine ⟨_, _, r, hres, exec_dec f s, ⟨_, exec_enq hacc, rfl⟩, ?_⟩
    rw [hres]
    rfl
  · rcases exec_check_cases (.inr h) with rfl | rfl <;> rfl
  · rcases h with h | h
    · cases h
      rfl
    · obtain ⟨_, rfl⟩ := exec_reset h
      rfl

/-! ## States that pace alike -/

/-- The two states have the same COUNT, WARM, LAST_SEND, LAST_VALID and configuration (R198). -/
structure PacesAlike (s t : State) : Prop where
  count : s.count = t.count
  warm : s.warm = t.warm
  lastSend : s.lastSend = t.lastSend
  lastValid : s.lastValid = t.lastValid
  cfg : s.cfg = t.cfg

/-- `PacingEq` is pacing alike after operations that dropped and released alike. -/
theorem pacingEq_iff (s t : State) :
    PacingEq s t ↔ PacesAlike s t ∧ s.result.dropKind = t.result.dropKind
      ∧ s.result.released.isSome = t.result.released.isSome :=
  ⟨fun ⟨hcount, hwarm, hsend, hvalid, hcfg, hres⟩ => ⟨⟨hcount, hwarm, hsend, hvalid, hcfg⟩, hres⟩,
    fun ⟨⟨hcount, hwarm, hsend, hvalid, hcfg⟩, hres⟩ => ⟨hcount, hwarm, hsend, hvalid, hcfg, hres⟩⟩

/-- What an operation dropped is what its ENQ dropped. -/
theorem dropKind_relay (d : DecodeResult) (o : EnqResult) (r : Option RawFrame) :
    (Result.relay d o r).dropKind = (Result.enqueue o).dropKind := by cases o <;> rfl

namespace PacesAlike

/-- A state paces like itself. -/
theorem refl (s : State) : PacesAlike s s := ⟨rfl, rfl, rfl, rfl, rfl⟩

section
variable {s t : State} (h : PacesAlike s t)
include h

/-- The two states are full together. -/
theorem full : s.full = t.full := by rw [State.full, State.full, h.count, h.cfg]

/-- The gate would leave WARM the same. -/
theorem warmAfterGate : s.warmAfterGate = t.warmAfterGate := by
  rw [State.warmAfterGate, State.warmAfterGate, h.warm, h.count, h.cfg]

/-- The rate lock is on at the same timestamps. -/
theorem held (now : Timestamp) : s.held now = t.held now := by
  rw [State.held, State.held, h.lastValid, h.lastSend, h.cfg]

/-- The two queues are empty together. -/
theorem queue_eq_nil (hq : s.queue = []) : t.queue = [] := by
  have hcount := h.count
  rw [State.count, State.count, hq] at hcount
  exact List.eq_nil_of_length_eq_zero hcount.symm

/-- The two queues have a head together, and as many frames behind it. -/
theorem queue_eq_cons {d : RawFrame} {rest : List RawFrame} (hq : s.queue = d :: rest) :
    ∃ d' rest', t.queue = d' :: rest' ∧ rest.length = rest'.length := by
  have hcount := h.count
  rw [State.count, State.count, hq] at hcount
  obtain ⟨d', rest', hq'⟩ := List.exists_cons_of_length_eq_add_one hcount.symm
  rw [hq'] at hcount
  exact ⟨d', rest', hq', Nat.succ.inj hcount⟩

/-- ENQ of any two frames keeps the pacing alike and drops alike. -/
theorem enqueue (f g : RawFrame) :
    PacesAlike (s.enqueue f).2 (t.enqueue g).2
      ∧ (Result.enqueue (s.enqueue f).1).dropKind = (Result.enqueue (t.enqueue g).1).dropKind := by
  have hcount := h.count
  rcases enqueue_cases s f with ⟨hroom, e⟩ | ⟨hfull, hdrop, e⟩ | ⟨hfull, hpol, d, rest, hq, e⟩ <;> rw [e]
  · rw [enqueue_of_room (h.full ▸ hroom)]
    exact ⟨⟨by simpa [State.count] using hcount, h.warm, h.lastSend, h.lastValid, h.cfg⟩, rfl⟩
  · rw [enqueue_of_dropNewest (h.full ▸ hfull) (hdrop.imp (h.cfg ▸ ·) h.queue_eq_nil)]
    exact ⟨h, rfl⟩
  · obtain ⟨d', rest', hq', hlen⟩ := h.queue_eq_cons hq
    rw [enqueue_of_dropOldest (h.full ▸ hfull) (h.cfg ▸ hpol) hq']
    exact ⟨⟨by simp [State.count, hlen], h.warm, h.lastSend, h.lastValid, h.cfg⟩, rfl⟩

/-- TRYREL keeps the pacing alike and releases alike. -/
theorem tryRelease (now : Timestamp) :
    PacesAlike (s.tryRelease now).2 (t.tryRelease now).2
      ∧ (s.tryRelease now).1.isSome = (t.tryRelease now).1.isSome := by
  rcases tryRelease_cases s now with ⟨hhold, e⟩ | ⟨hgate, hfree, f, rest, hq, e⟩ <;> rw [e]
  · rw [h.warmAfterGate, h.held] at hhold
    rw [tryRelease_of_hold (hhold.imp_right (Or.imp_left h.queue_eq_nil))]
    exact ⟨⟨h.count, h.warmAfterGate, h.lastSend, h.lastValid, h.cfg⟩, rfl⟩
  · obtain ⟨f', rest', hq', hlen⟩ := h.queue_eq_cons hq
    rw [tryRelease_of_release (h.warmAfterGate ▸ hgate) hq' (h.held now ▸ hfree)]
    exact ⟨⟨hlen, rfl, rfl, rfl, h.cfg⟩, rfl⟩

/-- A new result leaves the pacing alike. -/
theorem setResult (v w : Result) : PacesAlike { s with result := v } { t with result := w } :=
  ⟨h.count, h.warm, h.lastSend, h.lastValid, h.cfg⟩

/-- A relay iteration on any two frames keeps the pacing alike, drops and releases alike. -/
theorem relayChecked (now : Timestamp) (f g : RawFrame) : PacingEq (s.relayChecked now f) (t.relayChecked now g) := by
  obtain ⟨hqueued, hdrop⟩ := h.enqueue f g
  obtain ⟨hchecked, hrel⟩ := hqueued.tryRelease now
  rw [← dropKind_relay (decodeFrame f), ← dropKind_relay (decodeFrame g)] at hdrop
  exact (pacingEq_iff _ _).2 ⟨hchecked.setResult _ _, hdrop, hrel⟩

/-- So does decoding and enqueueing with no release check. -/
theorem relayHeld (f g : RawFrame) : PacingEq (s.relayHeld f) (t.relayHeld g) := by
  obtain ⟨hqueued, hdrop⟩ := h.enqueue f g
  rw [← dropKind_relay (decodeFrame f) _ none, ← dropKind_relay (decodeFrame g) _ none] at hdrop
  exact (pacingEq_iff _ _).2 ⟨hqueued.setResult _ _, hdrop, rfl⟩

end
end PacesAlike

/-- Two events that differ at most in their frame (R198). -/
inductive EventsAlike : Instr → Instr → Prop
  | idle : EventsAlike .idle .idle
  | tick (now : Timestamp) : EventsAlike (.tick now) (.tick now)
  | reset (cfg : Configuration) : EventsAlike (.reset cfg) (.reset cfg)
  | rx (now : Timestamp) (f g : RawFrame) : EventsAlike (.rx now f) (.rx now g)
  | rxtick (now : Timestamp) (f g : RawFrame) : EventsAlike (.rxtick now f) (.rxtick now g)

/-- Events that differ in their frame at most, run on states that pace alike, leave states that pace alike, and drop and
release alike. -/
theorem exec_pacesAlike {i j : Instr} {s s' t t' : State} (hij : EventsAlike i j) (h : PacesAlike s t)
    (hs : exec i s = .next s') (ht : exec j t = .next t') : PacingEq s' t' := by
  cases hij with
  | idle => cases hs; cases ht; exact (pacingEq_iff _ _).2 ⟨h.setResult _ _, rfl, rfl⟩
  | tick now =>
    cases hsrc : s.cfg.tickSource with
    | arrival =>
      rw [exec_tick_of_arrival hsrc] at hs
      rw [exec_tick_of_arrival (h.cfg ▸ hsrc)] at ht
      cases hs; cases ht
      exact (pacingEq_iff _ _).2 ⟨h.setResult _ _, rfl, rfl⟩
    | external =>
      rw [exec_tick_of_external hsrc] at hs
      rw [exec_tick_of_external (h.cfg ▸ hsrc)] at ht
      cases hs; cases ht
      obtain ⟨hchecked, hrel⟩ := h.tryRelease now
      exact (pacingEq_iff _ _).2 ⟨hchecked.setResult _ _, rfl, hrel⟩
  | reset cfg =>
    obtain ⟨_, rfl⟩ := exec_reset hs
    obtain ⟨_, rfl⟩ := exec_reset ht
    exact ⟨rfl, rfl, rfl, rfl, rfl, rfl, rfl⟩
  | rx now f g =>
    have hf := accepts_of_arriving hs rfl
    have hg := accepts_of_arriving ht rfl
    cases hsrc : s.cfg.tickSource with
    | arrival =>
      rw [exec_rx_of_arrival hsrc hf] at hs
      rw [exec_rx_of_arrival (h.cfg ▸ hsrc) hg] at ht
      cases hs; cases ht
      exact h.relayChecked now f g
    | external =>
      rw [exec_rx_of_external hsrc hf] at hs
      rw [exec_rx_of_external (h.cfg ▸ hsrc) hg] at ht
      cases hs; cases ht
      exact h.relayHeld f g
  | rxtick now f g =>
    rw [exec_rxtick_of_accepts (accepts_of_arriving hs rfl)] at hs
    rw [exec_rxtick_of_accepts (accepts_of_arriving ht rfl)] at ht
    cases hs; cases ht
    exact h.relayChecked now f g

/-- Settles O38: two such events differ in the frame only, to which pacing is blind, and the decode result is that of the
frame. -/
theorem decodeAndRelayAreIndependent : Obligations.DecodeAndRelayAreIndependent := by
  refine fun now now' f g s s' t u => ⟨?_, fun h => ?_⟩
  · rintro (⟨ht, hu⟩ | ⟨ht, hu⟩)
    · exact exec_pacesAlike (.rx now f g) (.refl s) ht hu
    · exact exec_pacesAlike (.rxtick now f g) (.refl s) ht hu
  · obtain ⟨r, ht⟩ := exec_relay_result (h.imp And.left And.left)
    obtain ⟨r', hu⟩ := exec_relay_result (h.imp And.right And.right)
    exact ⟨_, _, r, _, r', ht, hu⟩

/-- What the event decoder reads from a sample with `rst` clear is the event of `tick` and of the frame presented. -/
theorem eventOf_of_decode {p : PortSample} {i : Instr} (hrst : p.rst = false) (h : decode p = .ok i) :
    ∃ fr, fr.isSome = p.rx ∧ i = eventOf p.tick p.now fr := by
  cases hframe : p.frame with
  | error e => simp [decode, hrst, hframe] at h
  | ok fr =>
    rw [decode_of_frame hrst hframe] at h
    cases h
    exact ⟨fr, (rx_of_frame hframe).symm, rfl⟩

/-- The events of one tick input and two frames, or of none, differ in the frame at most. -/
theorem eventsAlike_eventOf (tick : Bool) (now : Timestamp) {fr fr' : Option RawFrame} (h : fr.isSome = fr'.isSome) :
    EventsAlike (eventOf tick now fr) (eventOf tick now fr') :=
  match fr, fr', h, tick with
  | none, none, _, false => .idle
  | none, none, _, true => .tick now
  | some f, some g, _, false => .rx now f g
  | some f, some g, _, true => .rxtick now f g

/-- Two samples that differ in the frame at most are read as events that differ in the frame at most. -/
theorem eventsAlike_of_decode {p q : PortSample} {i j : Instr} (h : SameButFrame p q) (hp : decode p = .ok i)
    (hq : decode q = .ok j) : EventsAlike i j := by
  obtain ⟨hrst, htick, hrx, hnow, hcfg⟩ := h
  cases hreset : p.rst with
  | true =>
    rw [decode_of_rst hreset] at hp
    rw [decode_of_rst (hrst ▸ hreset), ← hcfg] at hq
    cases hp; cases hq
    exact .reset p.cfg
  | false =>
    obtain ⟨fr, hfr, rfl⟩ := eventOf_of_decode hreset hp
    obtain ⟨fr', hfr', rfl⟩ := eventOf_of_decode (hrst ▸ hreset) hq
    rw [← htick, ← hnow]
    exact eventsAlike_eventOf p.tick p.now (hfr.trans (hrx.trans hfr'.symm))

/-- A step of two blocks that pace alike, on samples that differ in the frame at most, keeps them so. -/
theorem step_pacingEq {s s' t t' : State} (h : PacingEq s t) (hin : List.Forall₂ SameButFrame s.inputs t.inputs)
    (hs : step s = .next s') (ht : step t = .next t') :
    PacingEq s' t' ∧ List.Forall₂ SameButFrame s'.inputs t'.inputs := by
  obtain ⟨halike, _⟩ := (pacingEq_iff s t).1 h
  cases hsin : s.inputs with
  | nil =>
    rw [hsin, List.forall₂_nil_left_iff] at hin
    rw [step_of_nil hsin] at hs
    rw [step_of_nil hin] at ht
    rw [exec_inputs hs, exec_inputs ht, hsin, hin]
    exact ⟨exec_pacesAlike .idle halike hs ht, .nil⟩
  | cons p rest =>
    rw [hsin, List.forall₂_cons_left_iff] at hin
    obtain ⟨q, rest', hpq, hrest, htin⟩ := hin
    obtain ⟨i, hp, hs⟩ := step_decodes hsin hs
    obtain ⟨j, hq, ht⟩ := step_decodes htin ht
    rw [exec_inputs hs, exec_inputs ht]
    have htaken : PacesAlike { s with inputs := rest } { t with inputs := rest' } :=
      ⟨halike.count, halike.warm, halike.lastSend, halike.lastValid, halike.cfg⟩
    exact ⟨exec_pacesAlike (eventsAlike_of_decode hpq hp hq) htaken hs ht, hrest⟩

/-! ## Runs -/

/-- A completed step is the head of the trace. -/
theorem trace_of_step {s t : State} (k : Nat) (h : step s = .next t) : ∃ i, s.trace (k + 1) = (i, t) :: t.trace k := by
  obtain ⟨i, hfetch, _⟩ := step_cases h
  exact ⟨i, trace_succ_of_next k hfetch h⟩

/-- A run that goes on for `k + 1` steps has a first step, and goes on for `k` steps after it. -/
theorem step_of_trace_length {s : State} {k : Nat} (h : (s.trace (k + 1)).length = k + 1) :
    ∃ t, step s = .next t ∧ (t.trace k).length = k ∧ s.after (k + 1) = t.after k := by
  by_cases hnext : ∃ t, step s = .next t
  · obtain ⟨t, hstep⟩ := hnext
    obtain ⟨i, htrace⟩ := trace_of_step k hstep
    rw [htrace] at h
    exact ⟨t, hstep, Nat.succ.inj h, after_of_trace_cons htrace⟩
  · rw [trace_succ_of_not_next k (not_exists.mp hnext)] at h
    cases h

/-- Settles O55: by induction on the number of steps, each keeping the states' pacing and the inputs still to come
alike. -/
theorem pacingIsBlindToFrameContents : Obligations.PacingIsBlindToFrameContents := by
  intro k
  induction k with
  | zero => exact fun s t h _ _ _ => h
  | succ k ih =>
    intro s t h hin hs ht
    obtain ⟨s', hsstep, hslen, hsafter⟩ := step_of_trace_length hs
    obtain ⟨t', htstep, htlen, htafter⟩ := step_of_trace_length ht
    obtain ⟨h', hin'⟩ := step_pacingEq h hin hsstep htstep
    rw [hsafter, htafter]
    exact ih s' t' h' hin' hslen htlen

/-! ## Releases under ARRIVAL -/

/-- Under ARRIVAL an event that brings no frame and is no RESET leaves nothing but a new result, which releases nothing
(R199). -/
theorem event_of_no_arrival {i : Instr} {s t : State} (hi : i.row ∈ Row.events) (hsrc : s.cfg.tickSource = .arrival)
    (hreset : i.isReset = false) (harr : i.arriving = none) (h : exec i s = .next t) :
    ∃ v, v.released = none ∧ t = { s with result := v } := by
  cases exec_effect h with
  | quiet _ _ hrel => exact ⟨_, hrel, rfl⟩
  | enqueued | relayedHeld => cases harr
  | relayedChecked _ hrelay => rcases hrelay with rfl | ⟨rfl, _⟩ <;> cases harr
  | checked hcheck =>
    rcases hcheck with rfl | ⟨rfl, hext⟩
    · simp [Instr.row] at hi
    · exact nomatch hext.symm.trans hsrc
  | constructed => cases hreset

/-- Over a run under ARRIVAL without RESET, every releasing step is an arrival. -/
theorem run_releases_on_arrival {s u : State} {tr : List (Instr × State)} (h : Run s tr u)
    (hsrc : s.cfg.tickSource = .arrival) (hreset : NoReset tr) :
    ∀ e ∈ tr, e.2.result.released.isSome = true → e.1.arriving.isSome = true := by
  induction h with
  | stop s => simp
  | @next s t u i tr hfetch hexec _ ih =>
    obtain ⟨hi, htail⟩ := List.forall_mem_cons.mp hreset
    refine List.forall_mem_cons.mpr ⟨fun hrel => ?_, ih ((exec_cfg hexec hi).symm ▸ hsrc) htail⟩
    by_contra hnone
    have harr : i.arriving = none := by simpa using hnone
    obtain ⟨v, hv, rfl⟩ :=
      event_of_no_arrival (s := { s with inputs := s.inputs.tail }) (fetch_row hfetch) hsrc hi harr hexec
    rw [hv] at hrel
    cases hrel

/-- When every releasing step is an arrival, there are no more releases than arrivals. -/
theorem length_releasedFrames_le {tr : List (Instr × State)}
    (h : ∀ e ∈ tr, e.2.result.released.isSome = true → e.1.arriving.isSome = true) :
    (releasedFrames tr).length ≤ (presentedFrames tr).length := by
  rw [releasedFrames, presentedFrames, List.length_filterMap_eq_countP, List.length_filterMap_eq_countP]
  exact List.countP_mono_left h

/-- Over a run under ARRIVAL without RESET or arrivals, the queue and the pacing state stay as they are. -/
theorem run_stays_without_arrival {s u : State} {tr : List (Instr × State)} (h : Run s tr u)
    (hsrc : s.cfg.tickSource = .arrival) (hreset : NoReset tr) (hnone : presentedFrames tr = []) :
    u.queue = s.queue ∧ u.warm = s.warm ∧ u.lastSend = s.lastSend ∧ u.lastValid = s.lastValid := by
  induction h with
  | stop s => exact ⟨rfl, rfl, rfl, rfl⟩
  | @next s t u i tr hfetch hexec _ ih =>
    obtain ⟨hi, htail⟩ := List.forall_mem_cons.mp hreset
    rw [presentedFrames_cons, List.append_eq_nil_iff, Option.toList_eq_nil_iff] at hnone
    obtain ⟨harr, hnone⟩ := hnone
    obtain ⟨v, _, rfl⟩ :=
      event_of_no_arrival (s := { s with inputs := s.inputs.tail }) (fetch_row hfetch) hsrc hi harr hexec
    exact ih hsrc htail hnone

/-- Settles O53. -/
theorem releasesAreCoupledToArrivals : Obligations.ReleasesAreCoupledToArrivals := by
  intro k s hsrc hreset
  have hrun := run_trace k s
  have hon := run_releases_on_arrival hrun hsrc hreset
  have hle := length_releasedFrames_le hon
  refine ⟨hon, hle, fun hnone => ?_⟩
  obtain ⟨hqueue, hwarm, hsend, hvalid⟩ := run_stays_without_arrival hrun hsrc hreset hnone
  rw [hnone] at hle
  exact ⟨hqueue, hwarm, hsend, hvalid, List.eq_nil_of_length_eq_zero (Nat.le_zero.mp hle)⟩

/-! ## A tick on every arrival -/

/-- The samples of an RX under ARRIVAL for each timestamp and frame. -/
def arrivalSamples (c : Configuration) (es : List (Timestamp × RawFrame)) : List PortSample :=
  es.map (fun e => encode c (.rx e.1 e.2))

/-- The samples of an RXTICK under EXTERNAL for each timestamp and frame. -/
def tickedSamples (c : Configuration) (es : List (Timestamp × RawFrame)) : List PortSample :=
  es.map (fun e => encode { c with tickSource := .external } (.rxtick e.1 e.2))

/-- The block under EXTERNAL that is in the same state, and is presented a tick on every arrival still to come. -/
def State.ticked (s : State) (es : List (Timestamp × RawFrame)) : State :=
  s.aside .external (tickedSamples s.cfg es) s.result

/-- A step of the two blocks: both complete and stay in the same state, or neither completes. -/
theorem step_ticked {s : State} {es : List (Timestamp × RawFrame)} (hsrc : s.cfg.tickSource = .arrival)
    (hin : s.inputs = arrivalSamples s.cfg es) :
    (∃ s', step s = .next s' ∧ s'.cfg.tickSource = .arrival ∧ s'.inputs = arrivalSamples s'.cfg es.tail
        ∧ step (s.ticked es) = .next (s'.ticked es.tail))
    ∨ (∀ s', step s ≠ .next s') ∧ ∀ t', step (s.ticked es) ≠ .next t' := by
  cases es with
  | nil =>
    refine .inl ⟨{ s with result := .nothing }, ?_, hsrc, hin, ?_⟩
    · rw [step_of_nil hin, exec_idle]
    · rw [step_of_nil rfl, exec_idle]
      rfl
  | cons e es =>
    obtain ⟨now, f⟩ := e
    have hs : step s = exec (.rx now f) { s with inputs := arrivalSamples s.cfg es } :=
      step_of_decode hin (decode_encode _ (by simp [Instr.row])) (.inr rfl)
    have ht : step (s.ticked ((now, f) :: es)) = exec (.rxtick now f) (s.ticked es) :=
      step_of_decode (s := s.ticked ((now, f) :: es)) rfl (decode_encode _ (by simp [Instr.row])) (.inr rfl)
    cases hacc : s.accepts f with
    | true =>
      have hexec := exec_rx_of_arrival (s := { s with inputs := arrivalSamples s.cfg es }) hsrc hacc now
      have hcfg := exec_cfg hexec rfl
      refine .inl ⟨_, hs.trans hexec, ?_, ?_, ?_⟩
      · rw [hcfg]
        exact hsrc
      · rw [hcfg]
        exact exec_inputs hexec
      · rw [ht, exec_rxtick_of_accepts (s := s.ticked es) hacc, State.ticked, State.ticked, hcfg]
        exact congrArg _ (relayChecked_aside { s with inputs := arrivalSamples s.cfg es } _ _ _ now f)
    | false =>
      rw [hs, ht]
      exact .inr ⟨exec_ne_next_of_not_accepts rfl hacc, exec_ne_next_of_not_accepts rfl hacc⟩

/-- The two blocks release the same over any run, and end in the same state. -/
theorem run_ticked (k : Nat) {s : State} {es : List (Timestamp × RawFrame)} (hsrc : s.cfg.tickSource = .arrival)
    (hin : s.inputs = arrivalSamples s.cfg es) :
    releasedFrames (s.trace k) = releasedFrames ((s.ticked es).trace k)
      ∧ ∃ left, (s.ticked es).after k = (s.after k).ticked left := by
  induction k generalizing s es with
  | zero => exact ⟨rfl, es, rfl⟩
  | succ k ih =>
    rcases step_ticked hsrc hin with ⟨s', hs, hsrc', hin', ht⟩ | ⟨hs, ht⟩
    · obtain ⟨hrel, hleft⟩ := ih hsrc' hin'
      obtain ⟨i, hstrace⟩ := trace_of_step k hs
      obtain ⟨j, httrace⟩ := trace_of_step k ht
      rw [after_of_trace_cons hstrace, after_of_trace_cons httrace, hstrace, httrace, releasedFrames_cons,
        releasedFrames_cons, hrel]
      exact ⟨rfl, hleft⟩
    · have hstrace := trace_succ_of_not_next k hs
      have httrace := trace_succ_of_not_next k ht
      rw [after_of_trace_nil hstrace, after_of_trace_nil httrace, hstrace, httrace]
      exact ⟨rfl, es, rfl⟩

/-- Settles O57. -/
theorem tickPerArrivalBehavesAsArrival : Obligations.TickPerArrivalBehavesAsArrival := by
  intro k s t es hsrc ht hin
  obtain rfl : t = s.ticked es := ht
  obtain ⟨hrel, left, hafter⟩ := run_ticked k hsrc hin
  rw [hafter]
  exact ⟨hrel, rfl, rfl, rfl, rfl⟩

end Machine
end Sys2Proof

/-! SUPPORT. The host's duties: when the beats on the inbound port are no frame (`readBeats_append_beat`), when the
fetch of a sample is refused (`readSample_of_decode_error`, `readSample_of_cfg_ne`, `step_of_readSample_error`), when an
operation refuses its frame (`exec_refused_of_arriving`), and the statement of R231 settled from them. -/

namespace Sys2Proof

/-- A beat after the last one of a frame's data beats begins a second frame before the event of the first is over. -/
theorem readDataBeats_append_beat {bs : List Beat} {f : RawFrame} (h : readDataBeats bs = .ok f) (b : Beat) :
    readDataBeats (bs ++ [b]) = .error .interleavedFrames := by
  induction bs generalizing f with
  | nil => cases h
  | cons c rest ih =>
    cases hnull : c.null with
    | true => simp [readDataBeats, hnull] at h
    | false =>
      cases hlast : c.last with
      | true => cases rest <;> simp [readDataBeats, hnull, hlast]
      | false =>
        cases hrest : readDataBeats rest with
        | error e => simp [readDataBeats, hnull, hlast, hrest] at h
        | ok g => simp [readDataBeats, hnull, hlast, ih hrest]

/-- A beat after the beats of any frame begins a second frame too, the null beat of the zero-length frame included (R106). -/
theorem readBeats_append_beat {bs : List Beat} {f : RawFrame} (h : readBeats bs = .ok f) (b : Beat) :
    readBeats (bs ++ [b]) = .error .interleavedFrames := by
  cases bs with
  | nil => cases h
  | cons c rest =>
    cases hnull : c.null with
    | true =>
      cases hlast : c.last with
      | true => cases rest <;> simp [readBeats, hnull, hlast]
      | false => simp [readBeats, hnull, hlast] at h
    | false =>
      have hdata : readDataBeats (c :: rest) = .ok f := by simpa [readBeats, hnull] using h
      simpa [readBeats, hnull] using readDataBeats_append_beat hdata b

/-- With `rst` clear the event decoder rejects a sample whose beats are no frame. -/
theorem decode_of_frame_error {p : PortSample} {e : Reject} (hrst : p.rst = false) (hframe : p.frame = .error e) :
    decode p = .error e := by simp only [decode, hrst, hframe]

namespace Machine

/-- A sample that the event decoder rejects is read as no operation, under any configuration. -/
theorem readSample_of_decode_error {p : PortSample} {e : Reject} (h : decode p = .error e) (c : Configuration) :
    readSample c p = .error (.badInbound e) := by simp only [readSample, h]

/-- An event other than RESET is refused when its configuration inputs differ from the configuration in force (R231,
log 13). -/
theorem readSample_of_cfg_ne {p : PortSample} {i : Instr} {c : Configuration} (hdec : decode p = .ok i)
    (hrst : p.rst = false) (hcfg : p.cfg ≠ c) : readSample c p = .error .configurationChanged := by
  simp only [readSample, hdec]
  exact if_neg (by simp [hrst, hcfg])

/-- When the next port sample is read as no operation, the step is refused with the same reason. -/
theorem step_of_readSample_error {s : State} {p : PortSample} {rest : List PortSample} {r : Refusal}
    (hin : s.inputs = p :: rest) (hread : readSample s.cfg p = .error r) : step s = .refused r := by
  simp only [step, State.fetch, hin, hread]

/-- A frame longer than MAX_FRAME_LEN is refused by every operation that it arrives in (R231, log 12). -/
theorem exec_refused_of_arriving {i : Instr} {s : State} {f : RawFrame} (harr : i.arriving = some f)
    (hacc : s.accepts f = false) : exec i s = .refused .frameTooLong := by
  have hrej : ¬ s.accepts f = true := by simp [hacc]
  cases i with
  | rx | rxtick | enq => cases harr; exact if_neg hrej
  | _ => cases harr

/-- Settles O26: the fetch refuses malformed beats and a changed configuration, and RX, RXTICK and ENQ test the length. -/
theorem brokenHostDutiesAreRefused : Obligations.BrokenHostDutiesAreRefused := by
  refine ⟨fun s p rest e hin hrst hframe => ?_, fun b f => readBeats_append_beat (readBeats_frameBeats f) b,
    fun s p rest fr hin hrst hframe hcfg => ?_, fun s now f hlong => ?_⟩
  · have hdec := decode_of_frame_error hrst hframe
    exact step_of_readSample_error hin (readSample_of_decode_error hdec s.cfg)
  · have hdec := decode_of_frame hrst hframe
    exact step_of_readSample_error hin (readSample_of_cfg_ne hdec hrst hcfg)
  · have hacc : s.accepts f = false := decide_eq_false (Nat.not_le_of_lt hlong)
    exact ⟨exec_refused_of_arriving rfl hacc, exec_refused_of_arriving rfl hacc, exec_refused_of_arriving rfl hacc⟩

end Machine
end Sys2Proof

/-! SUPPORT. Reset and hazards: what two bytes exchanged do to the checksum (`checksumHolds_exchange`), an arrival's and a
tick's step (`step_arrival`, `step_tick`), what the release check of an arrival does (`relayChecked_of_release`,
`relayChecked_of_shut`), the first release of a filling queue (`Filling.releases_at_threshold`) and of a series of ticks
(`head_released_by_ticks`), and the four statements of reset and hazards settled from them. -/

namespace Sys2Proof
namespace Machine

/-! ## Exchanged bytes -/

/-- Two of the first 29 bytes exchanged leave the sum, and so the checksum, as it was (R253). -/
theorem checksumHolds_exchange {f : RawFrame} {i j : Nat} {a b : Byte} (hlen : 29 ≤ f.length) (hi : i < 29) (hj : j < 29)
    (ha : f[i]? = some a) (hb : f[j]? = some b) : ChecksumHolds ((f.set i b).set j a) ↔ ChecksumHolds f := by
  obtain ⟨_, rfl⟩ := List.getElem?_eq_some_iff.1 ha
  obtain ⟨_, rfl⟩ := List.getElem?_eq_some_iff.1 hb
  have hit : i < (f.take 29).length := by rw [List.length_take]; omega
  have hjt : j < (f.take 29).length := by rw [List.length_take]; omega
  have hperm := List.set_set_perm hit hjt
  rw [List.getElem_take, List.getElem_take] at hperm
  rw [checksumHolds_iff_sum hlen, checksumHolds_iff_sum (by rwa [List.length_set, List.length_set]), List.take_set,
    List.take_set, hperm.sum_eq]

/-- Settles O10: the exchange keeps the length and the checksum, and DEC looks at nothing else. -/
theorem exchangedBytesGoUndetected : Obligations.ExchangedBytesGoUndetected := by
  intro f s r i j a b hdec hi hj ha hb
  obtain ⟨hlen, hc⟩ := decodeFrame_ok_iff.1 ⟨r, exec_dec_eq_iff.1 hdec⟩
  simp only [exec_dec_eq_iff]
  exact decodeFrame_ok_iff.2
    ⟨by rwa [List.length_set, List.length_set], (checksumHolds_exchange hlen hi hj ha hb).2 hc⟩

/-! ## The release check of an arrival -/

/-- A relay iteration whose ENQ leaves the gate open, a frame queued and the rate lock off releases the head. -/
theorem relayChecked_of_release {s u : State} {o : EnqResult} {now : Timestamp} {f g : RawFrame} {kept : List RawFrame}
    (henq : s.enqueue f = (o, u)) (hgate : u.warmAfterGate = true) (hq : u.queue = g :: kept) (hfree : u.held now = false) :
    s.relayChecked now f = { u with warm := true, queue := kept, lastSend := now, lastValid := true,
                                    result := .relay (decodeFrame f) o (some g) } := by
  rw [State.relayChecked, henq, tryRelease_of_release hgate hq hfree]

/-- A relay iteration whose ENQ leaves the gate shut releases nothing, and the gate stays shut. -/
theorem relayChecked_of_shut {s u : State} {o : EnqResult} {now : Timestamp} {f : RawFrame} (henq : s.enqueue f = (o, u))
    (hshut : u.warmAfterGate = false) :
    s.relayChecked now f = { u with warm := false, result := .relay (decodeFrame f) o none } := by
  rw [State.relayChecked, henq, tryRelease_of_hold (.inl hshut), hshut]

/-- Settles O37: ENQ drops at QUEUE_CAP by either policy, and the release check then finds the gate open and the rate lock
off. -/
theorem fullQueueDropsDespiteARelease : Obligations.FullQueueDropsDespiteARelease := by
  intro now f g rest s hsrc hlen hcap hq hwarm hdue
  have hfull : s.full = true := (full_iff s).2 hcap
  have hfree : s.held now = false := (held_eq_false_iff s now).2 hdue
  have hgate {queue : List RawFrame} : ({ s with queue := queue } : State).warmAfterGate = true :=
    warmAfterGate_of_warm hwarm
  rw [exec_rx_of_arrival hsrc (decide_eq_true hlen)]
  refine ⟨decodeFrame f, fun hpol => ?_, fun hpol h kept hkept => ?_⟩
  · rw [relayChecked_of_release (enqueue_of_dropNewest hfull (.inl hpol) f) hgate hq hfree, ← hwarm]
  · rw [relayChecked_of_release (enqueue_of_dropOldest hfull hpol hq f) hgate hkept hfree, ← hwarm]

/-! ## The first release under ARRIVAL -/

/-- The block under ARRIVAL with a configuration that meets R13 and nothing released since RESET, the gate still shut. -/
structure Filling (s : State) : Prop where
  arrival : s.cfg.tickSource = .arrival
  constraints : Constraints s.cfg
  shut : s.warm = false
  unreleased : s.lastValid = false

/-- A QUEUE_CAP that meets R13 has room for the threshold, and for one frame. -/
theorem full_eq_false_of_count_lt {s : State} (hmet : Constraints s.cfg) (hbelow : s.count < max 1 s.cfg.framesToBuffer) :
    s.full = false := by
  rw [← Bool.not_eq_true, full_iff]
  intro hcap
  obtain ⟨_, _, _, _, hfits, _⟩ := hmet
  obtain ⟨hone, hthreshold⟩ := hfits _ hcap
  rw [State.count] at hbelow
  omega

/-- Under ARRIVAL, a step presented an RX of a frame within MAX_FRAME_LEN is a relay iteration. -/
theorem step_arrival {s : State} {now : Timestamp} {f : RawFrame} {rest : List PortSample}
    (hsrc : s.cfg.tickSource = .arrival) (hacc : s.accepts f = true)
    (hin : s.inputs = encode s.cfg (.rx now f) :: rest) :
    step s = .next ({ s with inputs := rest }.relayChecked now f) := by
  rw [step_of_decode hin (decode_encode _ (by simp [Instr.row])) (.inr rfl)]
  exact exec_rx_of_arrival (s := { s with inputs := rest }) hsrc hacc now

/-- What a run releases is what its first step releases, and then what the rest of it releases. -/
theorem releasedFrames_trace_succ {s t : State} (k : Nat) (h : step s = .next t) :
    releasedFrames (s.trace (k + 1)) = t.result.released.toList ++ releasedFrames (t.trace k) := by
  obtain ⟨i, htrace⟩ := trace_of_step k h
  rw [htrace, releasedFrames_cons]

namespace Filling

section
variable {s : State} {now : Timestamp} {f : RawFrame} {rest : List PortSample} (h : Filling s)
  (hacc : s.accepts f = true) (hin : s.inputs = encode s.cfg (.rx now f) :: rest)
include h hacc hin

/-- An arrival that leaves COUNT below the threshold is queued, and nothing else happens (R165). -/
theorem step_below (hbelow : s.count + 1 < s.cfg.framesToBuffer) :
    step s = .next { s with queue := s.queue ++ [f], inputs := rest, result := .relay (decodeFrame f) .noDrop none } := by
  have hroom : s.full = false := full_eq_false_of_count_lt h.constraints (by omega)
  have hshut : ({ s with queue := s.queue ++ [f], inputs := rest } : State).warmAfterGate = false :=
    (warmAfterGate_eq_false_iff _).2 ⟨h.shut, by simpa [State.count] using hbelow⟩
  rw [step_arrival h.arrival hacc hin,
    relayChecked_of_shut (enqueue_of_room (s := { s with inputs := rest }) hroom f) hshut, ← h.shut]

/-- The arrival that brings COUNT to the threshold (to one, when the threshold is 0) releases the frame queued first, with
no rate lock (R165, R172). -/
theorem step_reaching (hreach : s.count + 1 = max 1 s.cfg.framesToBuffer) :
    ∃ t, step s = .next t ∧ t.result.released = (s.queue ++ [f]).head? := by
  have hroom : s.full = false := full_eq_false_of_count_lt h.constraints (by omega)
  have hgate : ({ s with queue := s.queue ++ [f], inputs := rest } : State).warmAfterGate = true := by
    refine (warmAfterGate_iff _).2 (.inr ?_)
    have hthreshold : s.cfg.framesToBuffer ≤ s.count + 1 := by omega
    simpa [State.count] using hthreshold
  have hfree : s.held now = false := by rw [State.held, h.unreleased, Bool.false_and]
  obtain ⟨g, kept, hq⟩ := List.exists_cons_of_ne_nil (List.concat_ne_nil f s.queue)
  refine ⟨_, step_arrival h.arrival hacc hin, ?_⟩
  rw [relayChecked_of_release (enqueue_of_room (s := { s with inputs := rest }) hroom f) hgate hq hfree, hq]
  rfl

end

/-- Frames that bring COUNT to the threshold release nothing until the last of them, and in it the frame queued first
(R241): by induction on the frames still to come. -/
theorem releases_at_threshold {s : State} {es : List (Timestamp × RawFrame)} {rest : List PortSample} (h : Filling s)
    (hlen : ∀ e ∈ es, e.2.length ≤ s.cfg.maxFrameLen) (hes : es ≠ [])
    (hcount : s.count + es.length = max 1 s.cfg.framesToBuffer) (hin : s.inputs = arrivalSamples s.cfg es ++ rest) :
    releasedFrames (s.trace (es.length - 1)) = []
      ∧ releasedFrames (s.trace es.length) = (s.queue ++ es.map Prod.snd).head?.toList := by
  induction es generalizing s with
  | nil => exact absurd rfl hes
  | cons e es ih =>
    obtain ⟨hf, hlen⟩ := List.forall_mem_cons.mp hlen
    have hacc : s.accepts e.2 = true := decide_eq_true hf
    have hin : s.inputs = encode s.cfg (.rx e.1 e.2) :: (arrivalSamples s.cfg es ++ rest) := hin
    rw [List.length_cons] at hcount
    cases es with
    | nil =>
      obtain ⟨t, hstep, hrel⟩ := h.step_reaching hacc hin hcount
      refine ⟨rfl, ?_⟩
      rw [List.length_singleton, releasedFrames_trace_succ 0 hstep, hrel]
      exact List.append_nil _
    | cons e' es =>
      have hbelow : s.count + 1 < s.cfg.framesToBuffer := by
        rw [List.length_cons] at hcount
        omega
      have hstep := h.step_below hacc hin hbelow
      have hcount' : (s.queue ++ [e.2]).length + (e' :: es).length = max 1 s.cfg.framesToBuffer := by
        rw [List.length_append, List.length_singleton, ← hcount, State.count]
        omega
      have hfilling : Filling { s with queue := s.queue ++ [e.2], inputs := arrivalSamples s.cfg (e' :: es) ++ rest,
                                       result := .relay (decodeFrame e.2) .noDrop none } :=
        ⟨h.arrival, h.constraints, h.shut, h.unreleased⟩
      obtain ⟨hnone, hlast⟩ := ih hfilling hlen (List.cons_ne_nil e' es) hcount' rfl
      refine ⟨(releasedFrames_trace_succ es.length hstep).trans hnone, ?_⟩
      rw [List.length_cons, releasedFrames_trace_succ _ hstep, hlast, List.append_assoc]
      rfl

end Filling

/-- Settles O52: the state that RESET leaves is filling, with an empty queue. -/
theorem firstReleaseComesAtTheThreshold : Obligations.FirstReleaseComesAtTheThreshold := by
  intro s es rest first hq hwarm hvalid hsrc hmet hlen hcount hfirst hin
  have hes : es ≠ [] := by rintro rfl; cases hfirst
  have hthreshold : s.count + es.length = max 1 s.cfg.framesToBuffer := by
    rw [State.count, hq, List.length_nil, Nat.zero_add, hcount]
  obtain ⟨hnone, hlast⟩ := Filling.releases_at_threshold ⟨hsrc, hmet, hwarm, hvalid⟩ hlen hes hthreshold hin
  refine ⟨hnone, hlast.trans ?_⟩
  rw [hq, List.nil_append, List.head?_map, hfirst]
  rfl

/-! ## A series of ticks under EXTERNAL -/

/-- Under EXTERNAL, a step presented a TICK is a release check. -/
theorem step_tick {s : State} {now : Timestamp} {rest : List PortSample} (hsrc : s.cfg.tickSource = .external)
    (hin : s.inputs = encode s.cfg (.tick now) :: rest) :
    step s = exec (.tryrel now) { s with inputs := rest } := by
  rw [step_of_decode hin (decode_encode _ (by simp [Instr.row])) (.inr rfl)]
  exact exec_tick_of_external (s := { s with inputs := rest }) hsrc now

/-- A tick that the rate lock holds back changes nothing in a warm block. -/
theorem step_tick_of_held {s : State} {now : Timestamp} {rest : List PortSample} (hsrc : s.cfg.tickSource = .external)
    (hwarm : s.warm = true) (hheld : s.held now = true) (hin : s.inputs = encode s.cfg (.tick now) :: rest) :
    step s = .next { s with inputs := rest, result := .release none } := by
  have hgate : ({ s with inputs := rest } : State).warmAfterGate = true := warmAfterGate_of_warm hwarm
  rw [step_tick hsrc hin, exec_tryrel, tryRelease_of_hold (s := { s with inputs := rest }) (.inr (.inr hheld)), hgate,
    ← hwarm]

/-- A tick with the rate lock off releases the head of a warm block's queue. -/
theorem step_tick_of_free {s : State} {now : Timestamp} {rest : List PortSample} {g : RawFrame} {kept : List RawFrame}
    (hsrc : s.cfg.tickSource = .external) (hwarm : s.warm = true) (hq : s.queue = g :: kept)
    (hfree : s.held now = false) (hin : s.inputs = encode s.cfg (.tick now) :: rest) :
    ∃ t, step s = .next t ∧ t.result.released = some g := by
  refine ⟨_, (step_tick hsrc hin).trans (exec_tryrel now _), ?_⟩
  rw [tryRelease_of_release (s := { s with inputs := rest }) (warmAfterGate_of_warm hwarm) hq hfree]
  rfl

/-- In a warm block with a frame queued, ticks of which one finds the rate lock off release the head first: the ticks
before it are held back and change nothing. -/
theorem head_released_by_ticks {s : State} {ticks : List Timestamp} {rest : List PortSample} {g : RawFrame}
    {kept : List RawFrame} (hsrc : s.cfg.tickSource = .external) (hwarm : s.warm = true) (hq : s.queue = g :: kept)
    (hin : s.inputs = ticks.map (fun now => encode s.cfg (.tick now)) ++ rest) (hdue : ∃ now ∈ ticks, s.held now = false) :
    (releasedFrames (s.trace ticks.length)).head? = some g := by
  induction ticks generalizing s with
  | nil => simp at hdue
  | cons now ticks ih =>
    rw [List.length_cons]
    cases hheld : s.held now with
    | false =>
      obtain ⟨t, hstep, hrel⟩ := step_tick_of_free hsrc hwarm hq hheld hin
      rw [releasedFrames_trace_succ _ hstep, hrel]
      rfl
    | true =>
      have hstep := step_tick_of_held hsrc hwarm hheld hin
      have hlater : ∃ now ∈ ticks, s.held now = false := by simpa [hheld] using hdue
      rw [releasedFrames_trace_succ _ hstep]
      exact ih hsrc hwarm hq rfl hlater

/-- Settles O54: the tick that is due finds the rate lock off. -/
theorem ticksReleaseTheHead : Obligations.TicksReleaseTheHead := by
  intro s ticks rest g hsrc hwarm hhead hin hdue
  obtain ⟨kept, hq⟩ := List.head?_eq_some_iff.mp hhead
  simp only [← held_eq_false_iff] at hdue
  exact head_released_by_ticks hsrc hwarm hq hin hdue

end Machine
end Sys2Proof
